-- ==== Sys2Proof/Word.lean ====
section
/-! DEFINITION. The byte and the byte string of `00_scope.md` rule R15. -/

namespace Sys2Proof

/-- A byte, 0..255; bit 7 is the most significant (rule R15). -/
abbrev Byte := BitVec 8

/-- A finite sequence of bytes, index 0 the first transmitted or received (rule R15). -/
abbrev Bytes := List Byte

end Sys2Proof
end

