-- ==== Sys2Proof/Config.lean ====
section
/-! DEFINITION. What the build of the block fixes (the OPEN parameters of `00_scope.md` rule R10) and the
values the spec leaves free: the channel's answers, the reply format of PING, the sentinel. -/

namespace Sys2Proof

/-- RES_TAG (rule R28): the shape of an OK result. Codes 5 to 7 never occur. -/
inductive ResTag where
  | void | int | bytes | str | bool
deriving DecidableEq, Repr, Inhabited

/-- FAIL_CODE (rule R282), in the order of its numeric codes 0 to 21; 22 to 31 are never delivered. -/
inductive FailCode where
  | noFailure
  | chOpen | chWrite | chAvail | chRead | chFlush | chClose | writeShort
  | tooShort | terminator | hexDigit
  | echoCommand | echoRegister | echoFlags
  | checksum
  | format | width
  | hexOdd | hexChar | revWidth
  | illegalOp | operandRange
deriving DecidableEq, Repr, Inhabited

/-- A value an operation delivers: RES_TAG and `slice(RES_DATA, 0, RES_LEN)` (rule R28). -/
structure Value where
  tag : ResTag
  data : Bytes
deriving DecidableEq, Repr, Inhabited

/-- What a check, a builder or a parser answers: a result, or the failure the rule raises. -/
inductive Verdict (α : Type) where
  | ok (a : α)
  | fail (code : FailCode)
deriving DecidableEq, Repr, Inhabited

/-- One answer of the environment, read by whatever channel request comes next: `error` makes the request
answer `error`; otherwise a counting request answers `count`, a byte read answers `byte` (or that nothing
arrived), the others answer `ok`. Every combination is possible (rules R44, R46; U16, U17). -/
structure Draw where
  error : Bool
  count : Nat
  byte : Option Byte
deriving DecidableEq, Repr, Inhabited

/-- Which function PING_PARSE is (rule R205): the spec's default, or any other, left open. -/
inductive PingRule where
  | default
  | unknown
deriving DecidableEq, Repr, Inhabited

/-- The OPEN parameters of rule R10. The constraints the rule states are built in: a field whose name ends
in `Slack` is what the parameter has above its stated minimum, so that every value the rule allows, and no
other, can be written; TW_MAX alone has an upper bound too (`Params.twMax`, assumption 17). -/
structure Params where
  pingChar : Byte
  pingRule : PingRule
  noiseSeq : Byte × Byte
  noiseByte : Byte
  cancelSeq : Byte × Byte
  tPollSlack : Nat
  nPollSlack : Nat
  tPace : Nat
  nDrainSlack : Nat
  tPause1 : Nat
  tPause2 : Nat
  maxLenSlack : Nat
  revExtra : List Nat
  twMaxSlack : Nat
  abufCapSlack : Nat
  chidW : Nat
deriving DecidableEq, Repr, Inhabited

/-- MAX_LEN, at least 4 (rule R10, D33). -/
def Params.maxLen (p : Params) : Nat := p.maxLenSlack + 4

/-- N_POLL, at least 1 (rule R10, D18). -/
def Params.nPoll (p : Params) : Nat := p.nPollSlack + 1

/-- T_POLL, greater than 0 (rule R10, D18). -/
def Params.tPoll (p : Params) : Nat := p.tPollSlack + 1

/-- N_DRAIN, at least L_MAX + 1 with L_MAX = 11 + 2 x MAX_LEN (rule R10, D19). -/
def Params.nDrain (p : Params) : Nat := p.nDrainSlack + 2 * p.maxLen + 12

/-- ABUF_CAP, at least 64 (rule R10, D1). -/
def Params.abufCap (p : Params) : Nat := p.abufCapSlack + 64

/-- RES_CAP = max(2 x ABUF_CAP, TX_CAP, RX_CAP), with TX_CAP = 11 + 2 x MAX_LEN and RX_CAP = N_DRAIN (rules R10,
R28). -/
def Params.resCap (p : Params) : Nat := max (2 * p.abufCap) (max (2 * p.maxLen + 11) p.nDrain)

/-- TW_MAX, at least 8 (rule R10, D8) and at most 8 x RES_CAP - 1. The upper bound is DEDUCED (assumption 17): TOUNS
accepts every AW up to TW_MAX and delivers `AW / 8 + 1` bytes (rules R113, R137), which RES_LEN bounds by RES_CAP
(rule R28). -/
def Params.twMax (p : Params) : Nat := min p.twMaxSlack (8 * p.resCap - 9) + 8

/-- The parameters the block was built with: any that rule R10 allows. -/
opaque Config.params : Params

/-- The channel's answers where the environment has lined up none: any answer at every request (rule R46). -/
opaque Config.chanDraw : Nat → Draw

/-- PING_PARSE where it is not the default: any function of the captured buffer (rule R205, D5). What of its answers is
taken as it stands, every failure code but 0 among them, is `properVerdict` (DESIGN CHOICE, assumption 6). -/
opaque Config.pingParse : Bytes → Verdict Value

/-- SENTINEL (rule R10, D34): the value a host-side wrapper returns for every failure; unused by the block. Rule R10
says only "a value": that it is a byte string, like a delivered value, is the model's own, DESIGN CHOICE
(assumption 22). -/
opaque Config.sentinel : Bytes

end Sys2Proof
end

