-- ==== Sys2Proof/Syntax.lean ====
section
/-! DEFINITION. The operations of the command port (`30_encoding.md` rule R110), one constructor per row of
the opcode table, and the raw command the host presents (`10_state.md` rule R47). -/

namespace Sys2Proof

/-- Everything a command presents beside its selector (rule R47). Every operation latches all of it and uses
the fields its own rule names. -/
structure Operands where
  /-- SUB, the frame BUILD builds or PARSE parses (rule R21). -/
  sub : BitVec 2
  /-- REG, the device register address in host-logical order (rule R22). -/
  reg : BitVec 16
  /-- LEN, the data length in bytes (rule R23). -/
  len : Nat
  /-- FMT, shape in bits 1:0, override in bit 2 (rule R24). -/
  fmt : BitVec 3
  /-- VAL from index 0; a byte of VAL past the list is 0x00 (rule R25). -/
  val : Bytes
  /-- `slice(ABUF, 0, ALEN)`; its length is ALEN (rule R26). -/
  abuf : Bytes
  /-- AV, the pattern of TW_MAX bits as a natural number (rule R26). -/
  av : Nat
  /-- AW, the bit width operand (rule R26). -/
  aw : Nat
  /-- AC, the checksum operand of CSUMCHK (rule R26). -/
  ac : Byte
deriving DecidableEq, Repr

/-- The operand fields all zero: their reset value (rule R51), and what a bare selector presents. -/
def Operands.zero : Operands :=
  { sub := 0, reg := 0, len := 0, fmt := 0, val := [], abuf := [], av := 0, aw := 0, ac := 0 }

/-- A command as the host presents it: OPR and the operand fields (rule R47). -/
structure Command where
  opr : BitVec 4
  operands : Operands
deriving DecidableEq, Repr

/-- The operations, one per row of the opcode table (rules R110, R112). -/
inductive Instr where
  | hexenc (o : Operands)
  | hexdec (o : Operands)
  | twosc (o : Operands)
  | touns (o : Operands)
  | brev (o : Operands)
  | csum (o : Operands)
  | csumchk (o : Operands)
  | build (o : Operands)
  | parse (o : Operands)
  | ping (o : Operands)
  | restart (o : Operands)
  | read (o : Operands)
  | write (o : Operands)
  | reserved13 (o : Operands)
  | reserved14 (o : Operands)
  | reserved15 (o : Operands)
deriving DecidableEq, Repr

/-- The operand fields a command presents. -/
def Instr.operands : Instr → Operands
  | .hexenc o => o
  | .hexdec o => o
  | .twosc o => o
  | .touns o => o
  | .brev o => o
  | .csum o => o
  | .csumchk o => o
  | .build o => o
  | .parse o => o
  | .ping o => o
  | .restart o => o
  | .read o => o
  | .write o => o
  | .reserved13 o => o
  | .reserved14 o => o
  | .reserved15 o => o

/-- The four transaction operations, which SUB also names (rule R21). -/
inductive Kind where
  | ping | restart | read | write
deriving DecidableEq, Repr

/-- The data shapes of FMT[1:0] (rule R24). -/
inductive Shape where
  | int | bytes | string
deriving DecidableEq, Repr

/-- A format: a shape, and whether a checksum mismatch is tolerated (rule R24). -/
structure Format where
  shape : Shape
  override : Bool
deriving DecidableEq, Repr

end Sys2Proof
end

