-- ==== Sys2Proof/WellFormed.lean ====
section
/-! DEFINITION. Which commands can be expressed on the command port: each operand field fits the register it
is latched in (`10_state.md` rules R25, R26). -/

namespace Sys2Proof

/-- A natural number fits in `w` bits. Written with the logarithm so that it evaluates for any `w`. -/
def fitsBits (n w : Nat) : Bool := n == 0 || decide (n.log2 < w)

/-- VAL is MAX_LEN bytes (rule R25). -/
def Operands.valFits (p : Params) (o : Operands) : Bool := decide (o.val.length ≤ p.maxLen)

/-- ALEN is at most ABUF_CAP (rule R26). -/
def Operands.abufFits (p : Params) (o : Operands) : Bool := decide (o.abuf.length ≤ p.abufCap)

/-- AV is TW_MAX bits (rule R26). -/
def Operands.avFits (p : Params) (o : Operands) : Bool := fitsBits o.av p.twMax

/-- AW is at most TW_MAX (rule R26). -/
def Operands.awFits (p : Params) (o : Operands) : Bool := decide (o.aw ≤ p.twMax)

/-- The operand fields can be presented on the command port. -/
def Operands.wellFormed (p : Params) (o : Operands) : Bool :=
  o.valFits p && o.abufFits p && o.avFits p && o.awFits p

/-- An operation is well formed when its operand fields can be presented. -/
def Instr.wellFormed (p : Params) (i : Instr) : Bool := i.operands.wellFormed p

end Sys2Proof
end

