-- ==== Sys2Proof/Decode.lean ====
section
/-! DEFINITION. The decoder and the encoder of the command port (`30_encoding.md` rule R110), and the fields
SUB and FMT (`10_state.md` rules R21, R24). -/

namespace Sys2Proof

/-- Why a presented value is no command: it does not fit the port (rules R25, R26). -/
inductive DecodeError where
  | valTooLong
  | abufTooLong
  | avTooWide
  | awTooLarge
deriving DecidableEq, Repr

/-- The operation a selector names, with the operand fields presented (rules R110, R112). -/
def selectInstr (opr : BitVec 4) (o : Operands) : Instr :=
  match opr.toFin with
  | 0 => .hexenc o
  | 1 => .hexdec o
  | 2 => .twosc o
  | 3 => .touns o
  | 4 => .brev o
  | 5 => .csum o
  | 6 => .csumchk o
  | 7 => .build o
  | 8 => .parse o
  | 9 => .ping o
  | 10 => .restart o
  | 11 => .read o
  | 12 => .write o
  | 13 => .reserved13 o
  | 14 => .reserved14 o
  | 15 => .reserved15 o
  | ⟨n + 16, h⟩ => absurd h (by omega)

/-- Decode a presented command: reject by name what the port cannot express, else select by OPR. -/
def decode (p : Params) (c : Command) : Except DecodeError Instr :=
  if ¬ c.operands.valFits p then .error .valTooLong
  else if ¬ c.operands.abufFits p then .error .abufTooLong
  else if ¬ c.operands.avFits p then .error .avTooWide
  else if ¬ c.operands.awFits p then .error .awTooLarge
  else .ok (selectInstr c.opr c.operands)

/-- The selector of an operation (rule R21). -/
def Instr.opr : Instr → BitVec 4
  | .hexenc _ => 0
  | .hexdec _ => 1
  | .twosc _ => 2
  | .touns _ => 3
  | .brev _ => 4
  | .csum _ => 5
  | .csumchk _ => 6
  | .build _ => 7
  | .parse _ => 8
  | .ping _ => 9
  | .restart _ => 10
  | .read _ => 11
  | .write _ => 12
  | .reserved13 _ => 13
  | .reserved14 _ => 14
  | .reserved15 _ => 15

/-- The command that presents an operation: the converse of `decode`. -/
def encode (i : Instr) : Command := { opr := i.opr, operands := i.operands }

/-- The command a word of `nbits` bits of the opcode table stands for: OPR in bits 3:0, every operand field zero. -/
def tableCommand (nbits w : Nat) : Command := { opr := BitVec.ofNat 4 (w % 2 ^ nbits), operands := Operands.zero }

/-- The operation the decoder reads from a word of the opcode table, whose selector is its bits 3:0. -/
def decodeTableWord (nbits w : Nat) : Option Instr :=
  if nbits < 4 then none else (decode Config.params (tableCommand nbits w)).toOption

/-- The transaction operation SUB names (rule R21). -/
def Kind.ofSub (sub : BitVec 2) : Kind :=
  match sub.toFin with
  | 0 => .ping
  | 1 => .restart
  | 2 => .read
  | 3 => .write
  | ⟨n + 4, h⟩ => absurd h (by omega)

/-- The transaction operation a latched OPR names, if it names one (rule R21). -/
def Kind.ofOpr (opr : BitVec 4) : Option Kind :=
  if opr = 9 then some .ping
  else if opr = 10 then some .restart
  else if opr = 11 then some .read
  else if opr = 12 then some .write
  else none

/-- The format FMT names; codes 3 and 7 are reserved (rules R24, R111). -/
def Format.ofBits (fmt : BitVec 3) : Option Format :=
  match fmt.toFin with
  | 0 => some { shape := .int, override := false }
  | 1 => some { shape := .bytes, override := false }
  | 2 => some { shape := .string, override := false }
  | 3 => none
  | 4 => some { shape := .int, override := true }
  | 5 => some { shape := .bytes, override := true }
  | 6 => some { shape := .string, override := true }
  | 7 => none
  | ⟨n + 8, h⟩ => absurd h (by omega)

end Sys2Proof
end

