-- ==== Sys2Proof/Machine/State.lean ====
section
/-! DEFINITION. The state of VEDFC (`10_state.md` rule R20), what the model holds beside it, the reasons a step
can stop, and the state after reset (rule R51). -/

namespace Sys2Proof.Machine

/-- ST (rule R30), in the order of its codes 0 to 8; 9 to 15 never occur. -/
inductive EngineState where
  | idle | sending | awaitingData | draining | classifying | accepted | noisyRetry | parsed | exhausted
deriving DecidableEq, Repr

/-- RES_STATUS (rule R27): NONE, OK, FAIL; code 3 never occurs. -/
inductive ResStatus where
  | none | ok | fail
deriving DecidableEq, Repr

/-- FAIL_KIND (rule R281), in the order of its codes 0 to 7. -/
inductive FailKind where
  | none | transportUnreachable | malformedReply | echoMismatch | checksumMismatch | unsupportedFormat
  | codecError | illegalOperation
deriving DecidableEq, Repr

/-- The result registers (rules R27 to R29). `data` is `slice(RES_DATA, 0, RES_LEN)`: its length is RES_LEN. -/
structure ResultRegs where
  status : ResStatus
  tag : ResTag
  data : Bytes
  failKind : FailKind
  failCode : FailCode
deriving DecidableEq, Repr

/-- No result: what reset and the acceptance of a command leave (rules R47, R51). -/
def ResultRegs.cleared : ResultRegs :=
  { status := .none, tag := .void, data := [], failKind := .none, failCode := .noFailure }

/-- The configuration registers (rules R39 to R42). The two `Written` fields are the model's own: whether the
host has written the register since reset, which rule R326 makes a precondition of a transaction
(`State.configured`, assumption 7). -/
structure ConfigRegs where
  chId : Nat
  baud : BitVec 32
  timeout : Nat
  debug : Bool
  chIdWritten : Bool
  timeoutWritten : Bool
deriving DecidableEq, Repr

/-- The reset values of the configuration registers (rule R51). CFG_CH_ID and CFG_TIMEOUT are unspecified
there: DESIGN CHOICE 0, unsafe (assumption 7). -/
def ConfigRegs.reset : ConfigRegs :=
  { chId := 0, baud := 19200, timeout := 0, debug := false, chIdWritten := false, timeoutWritten := false }

/-- A channel request with its arguments (rules R16, R44). -/
inductive Request where
  | chOpen (chId : Nat) (baud : BitVec 32) (timeout : Nat)
  | chWrite (bytes : Bytes)
  | chAvail
  | chReadByte
  | chFlushIn
  | chClose
deriving DecidableEq, Repr

/-- The answer to a channel request (rule R44). -/
inductive Answer where
  | ok
  | error
  | count (n : Nat)
  | byte (b : Byte)
  | nothing
deriving DecidableEq, Repr

/-- One entry of the channel event trace (rule R45). -/
inductive Event where
  | request (r : Request) (a : Answer)
  | delay (t : Nat)
deriving DecidableEq, Repr

/-- What the host does with its port at one step: nothing, present a command (rule R47), or write a
configuration register (rule R43). -/
inductive HostAct where
  | wait
  | command (c : Command)
  | writeChId (v : Nat)
  | writeBaud (v : BitVec 32)
  | writeTimeout (v : Nat)
  | writeDebug (v : Bool)
deriving DecidableEq, Repr

/-- What the outside does at one step: a host action and, where `reset` is `some k`, a RESET that lands after
the first `k` channel events of that step (rule R320; `some 0` is a RESET before anything else). -/
structure HostInput where
  act : HostAct
  reset : Option Nat
deriving DecidableEq, Repr

/-- The command port's answer to the command last presented (rule R47): rejected is CMD_REJECT. -/
inductive PortAck where
  | none | accepted | rejected
deriving DecidableEq, Repr

/-- A byte buffer: (index, byte) pairs. An index that is not listed has no value. -/
abbrev Memory := List Host.Cell

/-- The canonical form of a buffer: indices strictly rising. An unlisted index has no value, so no entry can
equal what an unlisted index reads as. -/
abbrev Memory.wf (m : Memory) : Prop := List.Pairwise (fun x y => x.1 < y.1) m

/-- The state. The first group is what rule R20 lists; the second is what the model keeps beside it. -/
structure State where
  /-- The command latches OPR, SUB, REG, LEN, FMT, VAL, ABUF, ALEN, AV, AW, AC (rules R21 to R26). -/
  cmd : Command
  /-- RES_STATUS, RES_TAG, RES_LEN, RES_DATA, FAIL_KIND, FAIL_CODE (rules R27 to R29). -/
  res : ResultRegs
  /-- ST (rule R30); BUSY is a function of it (rule R34). -/
  st : EngineState
  /-- ATT: attempts started (rule R31). -/
  att : Nat
  /-- PCNT: unsuccessful polls of this attempt (rule R32). -/
  pcnt : Nat
  /-- DCNT: drain iterations of this attempt (rule R32). -/
  dcnt : Nat
  /-- CCNT: recovery sequences of this transaction (rule R33). -/
  ccnt : Nat
  /-- CSW: a checksum mismatch was tolerated (rule R35). -/
  csw : Bool
  /-- CHOPEN: what VEDFC believes of the channel (rule R36). -/
  chOpen : Bool
  /-- TXBUF (rule R37). -/
  txBuf : Memory
  /-- TXLEN (rule R37). -/
  txLen : Nat
  /-- RXBUF (rule R38). -/
  rxBuf : Memory
  /-- RXLEN (rule R38). -/
  rxLen : Nat
  /-- CFG_CH_ID, CFG_BAUD, CFG_TIMEOUT, CFG_DEBUG (rules R39 to R42). -/
  cfg : ConfigRegs
  /-- The model's own: the OPEN parameters the block was built with (rules R10, R50). No step changes them. -/
  params : Params
  /-- The model's own: what the host does at the next steps, oldest first. -/
  hostIn : List HostInput
  /-- The model's own: the channel answers the environment has lined up, first to be drawn first. -/
  chScript : List Draw
  /-- The model's own: how many channel answers have been drawn. -/
  chDraws : Nat
  /-- The model's own: every channel event so far, oldest first. -/
  log : List Event
  /-- The model's own: where in `log` the event trace of the last accepted transaction begins (rule R45). -/
  mark : Nat
  /-- The model's own: the command port's last acknowledgement (rule R47). -/
  portAck : PortAck
deriving DecidableEq, Repr

/-- Why the machine stops with a fault. No state that a run reaches gives one of these. -/
inductive Fault where
  /-- Sending reads a byte of TXBUF below TXLEN that has no value (rule R61). Safe. -/
  | txUnwritten
  /-- Classifying or the parser reads a byte of RXBUF below RXLEN that has no value (rule R61). Safe. -/
  | rxUnwritten
  /-- The builder's frame does not fit TXBUF (rules R37, R61). Safe. -/
  | txOverflow
  /-- Draining appends at index RX_CAP or above (rule R61). Safe. -/
  | rxOverflow
  /-- ST is not Idle and OPR names no transaction operation (rule R30). Safe. -/
  | noTransaction
deriving DecidableEq, Repr

/-- Why the machine gives no meaning. -/
inductive Refusal where
  /-- `exec`'s arm of an operation that has no meaning yet raises it. Safe. -/
  | notModelled (mnemonic : String)
  /-- The command port raises it on a value that cannot be expressed there (rules R25, R26). Safe. -/
  | commandNotExpressible (why : DecodeError)
  /-- The configuration port raises it on a CFG_CH_ID of more than CHID_W bits (rule R39). Safe. -/
  | chIdNotExpressible
  /-- The command port raises it on a transaction that would open the channel before CFG_CH_ID and CFG_TIMEOUT have
  both been written: the violated precondition of rule R326, where a model "refuses to run the transaction". Safe. -/
  | notConfigured
deriving DecidableEq, Repr

/-- The machine right after reset (rules R51, R321). -/
def State.reset : State :=
  { cmd := { opr := 0, operands := Operands.zero }
    res := ResultRegs.cleared
    st := .idle
    att := 0
    pcnt := 0
    dcnt := 0
    ccnt := 0
    csw := false
    chOpen := false
    txBuf := []
    txLen := 0
    rxBuf := []
    rxLen := 0
    cfg := ConfigRegs.reset
    params := Config.params
    hostIn := []
    chScript := []
    chDraws := 0
    log := []
    mark := 0
    portAck := .none }

end Sys2Proof.Machine
end

