-- ==== Sys2Proof/Machine/Codes.lean ====
section
/-! DEFINITION. The numeric codes the host reads (`10_state.md` rules R27 to R30, `60_exceptions.md` rules R281,
R282), the kind of each failure code, and the constants of `00_scope.md` rules R8 and R9. -/

namespace Sys2Proof.Machine

/-- MARKER, the character `:` (rules R8, R9). -/
def markerByte : Byte := 0x3A

/-- TERM, the line feed (rules R8, R9). -/
def termByte : Byte := 0x0A

/-- TAB (rules R8, R9). -/
def tabByte : Byte := 0x09

/-- CSUM_CONST (rule R8). -/
def csumConst : Byte := 0x55

/-- MAX_ATTEMPTS (rule R8). -/
def maxAttempts : Nat := 5

/-- FLAGS_SENT (rule R8). -/
def flagsSent : Byte := 0x00

/-- The characters that CMD_PING may be: one character different from `6`, `7` and `8` (rule R10, D4) of which the frame
`[0x3A, CMD_PING, 0x0A]` is one ASCII line (rule R91) and has no tab, no carriage return and no lower-case letter (rule
R172). That the last two rules bound the parameter is DEDUCED (assumption 5). -/
def pingCharAllowed (c : Byte) : Bool :=
  decide (c.toNat < 0x80) && c != 0x36 && c != 0x37 && c != 0x38 && c != 0x09 && c != 0x0A && c != 0x0D &&
    !(decide (0x61 ≤ c.toNat) && decide (c.toNat ≤ 0x7A))

/-- CMD_PING (rule R10, D4). A parameter that names a character it may not be stands for `1`, so that every character
the rules allow, and no other, can be had (assumption 5). -/
def cmdPing (p : Params) : Byte := if pingCharAllowed p.pingChar then p.pingChar else 0x31

/-- The command character of a transaction operation (rules R8, R103). -/
def Kind.commandChar (p : Params) : Kind → Byte
  | .ping => cmdPing p
  | .restart => 0x36
  | .read => 0x37
  | .write => 0x38

/-- FAIL_KIND of each failure code: every code belongs to exactly one kind (rule R282). -/
def failKindOf : FailCode → FailKind
  | .noFailure => .none
  | .chOpen | .chWrite | .chAvail | .chRead | .chFlush | .chClose | .writeShort => .transportUnreachable
  | .tooShort | .terminator | .hexDigit => .malformedReply
  | .echoCommand | .echoRegister | .echoFlags => .echoMismatch
  | .checksum => .checksumMismatch
  | .format | .width => .unsupportedFormat
  | .hexOdd | .hexChar | .revWidth => .codecError
  | .illegalOp | .operandRange => .illegalOperation

/-- The numeric FAIL_CODE (rule R282). -/
def failCodeBits : FailCode → BitVec 5
  | .noFailure => 0
  | .chOpen => 1
  | .chWrite => 2
  | .chAvail => 3
  | .chRead => 4
  | .chFlush => 5
  | .chClose => 6
  | .writeShort => 7
  | .tooShort => 8
  | .terminator => 9
  | .hexDigit => 10
  | .echoCommand => 11
  | .echoRegister => 12
  | .echoFlags => 13
  | .checksum => 14
  | .format => 15
  | .width => 16
  | .hexOdd => 17
  | .hexChar => 18
  | .revWidth => 19
  | .illegalOp => 20
  | .operandRange => 21

/-- The numeric FAIL_KIND (rule R281). -/
def failKindBits : FailKind → BitVec 3
  | .none => 0
  | .transportUnreachable => 1
  | .malformedReply => 2
  | .echoMismatch => 3
  | .checksumMismatch => 4
  | .unsupportedFormat => 5
  | .codecError => 6
  | .illegalOperation => 7

/-- The numeric RES_STATUS (rule R27). -/
def resStatusBits : ResStatus → BitVec 2
  | .none => 0
  | .ok => 1
  | .fail => 2

/-- The numeric RES_TAG (rule R28). -/
def resTagBits : ResTag → BitVec 3
  | .void => 0
  | .int => 1
  | .bytes => 2
  | .str => 3
  | .bool => 4

/-- The numeric ST (rule R30). -/
def engineStateBits : EngineState → BitVec 4
  | .idle => 0
  | .sending => 1
  | .awaitingData => 2
  | .draining => 3
  | .classifying => 4
  | .accepted => 5
  | .noisyRetry => 6
  | .parsed => 7
  | .exhausted => 8

end Sys2Proof.Machine
end

