-- ==== Sys2Proof/Machine/Codec.lean ====
section
/-! DEFINITION. The pure functions of the Byte/ASCII codec (`40_codec_ops.md`) and the byte-string arithmetic of
`00_scope.md` rule R15. -/

namespace Sys2Proof.Machine

/-- `hexchar(n)`: the ASCII code of the digit of a nibble, upper case (rules R9, R15). -/
def hexchar (n : BitVec 4) : Byte :=
  if n.toNat < 10 then BitVec.ofNat 8 (0x30 + n.toNat) else BitVec.ofNat 8 (0x37 + n.toNat)

/-- `hexval(c)`: the nibble of an upper-case hex digit, undefined for any other byte (rule R15). -/
def hexval (c : Byte) : Option (BitVec 4) :=
  if 0x30 ≤ c.toNat ∧ c.toNat ≤ 0x39 then some (BitVec.ofNat 4 (c.toNat - 0x30))
  else if 0x41 ≤ c.toNat ∧ c.toNat ≤ 0x46 then some (BitVec.ofNat 4 (c.toNat - 0x37))
  else none

/-- The hex pair of a byte, high nibble first (rules R64, R97). -/
def hexPair (b : Byte) : Bytes := [hexchar (b.extractLsb' 4 4), hexchar (b.extractLsb' 0 4)]

/-- The byte a hex pair encodes (rule R97). -/
def pairByte (h l : BitVec 4) : Byte := h ++ l

/-- `hexenc(B)` (rule R131). -/
def hexenc : Bytes → Bytes
  | [] => []
  | b :: bs => hexPair b ++ hexenc bs

/-- The pairs of `hexdec`, scanned from index 0; a lone last character cannot occur after the length check. -/
def hexdecPairs : Bytes → Verdict Bytes
  | [] => .ok []
  | [_] => .fail .hexOdd
  | h :: l :: rest =>
    match hexval h, hexval l with
    | some x, some y =>
      match hexdecPairs rest with
      | .ok bs => .ok (pairByte x y :: bs)
      | .fail c => .fail c
    | _, _ => .fail .hexChar

/-- `hexdec(A)`: an odd length fails before any character is looked at (rule R133). -/
def hexdec (a : Bytes) : Verdict Bytes :=
  if a.length % 2 = 1 then .fail .hexOdd else hexdecPairs a

/-- `unsigned_be(B)` (rule R15). -/
def unsignedBe (b : Bytes) : Nat := b.foldl (fun acc x => 256 * acc + x.toNat) 0

/-- `signed_be(B)` (rule R15). -/
def signedBe (b : Bytes) : Int :=
  if (b.headD 0).getLsbD 7 then (unsignedBe b : Int) - 2 ^ (8 * b.length) else unsignedBe b

/-- The big-endian two's-complement representation of an integer in `n` bytes (rules R28, R135, D28). -/
def beBytes : Nat → Int → Bytes
  | 0, _ => []
  | n + 1, x => beBytes n (x / 256) ++ [BitVec.ofInt 8 x]

/-- `twosc(v, w)` for `w >= 1`: subtract `2^w` if bit `w-1` is set (rule R135). -/
def twosc (v w : Nat) : Int := if v.testBit (w - 1) then (v : Int) - 2 ^ w else v

/-- `touns(s, w)` for `w >= 1`: `s mod 2^w` (rule R137). -/
def touns (s : Int) (w : Nat) : Int := s % 2 ^ w

/-- Membership in REV_OK: 1, 2 and 4 always, 0 never, other widths as the parameter says (rules R10, R140). -/
def revOk (p : Params) (n : Nat) : Bool :=
  n == 1 || n == 2 || n == 4 || (n != 0 && p.revExtra.contains n)

/-- `brev(B)`: the bytes reversed, defined on the widths of REV_OK (rules R139, R140). -/
def brev (p : Params) (b : Bytes) : Option Bytes := if revOk p b.length then some b.reverse else none

end Sys2Proof.Machine
end

