-- ==== Sys2Proof/Machine/Checksum.lean ====
section
/-! DEFINITION. The checksum calculator's pure functions (`41_checksum.md`). -/

namespace Sys2Proof.Machine

/-- `checksum(P) = (85 - sum of the bytes) mod 256`, in the hardware form of an 8-bit accumulator that starts
at 0x55 and from which each byte is subtracted (rule R152). -/
def checksum (payload : Bytes) : Byte := payload.foldl (fun acc b => acc - b) csumConst

/-- `csumchk(P, c)` (rule R155). -/
def csumchk (payload : Bytes) (c : Byte) : Bool := checksum payload == c

end Sys2Proof.Machine
end

