-- ==== Sys2Proof/Machine/Operands.lean ====
section
/-! DEFINITION. The operand forms: what an operation reads of the command latches, the checks on them
(`30_encoding.md` rules R111, R113), and the sizes derived from the parameters. -/

namespace Sys2Proof.Machine

/-- `L(LEN) = 11 + 2 x LEN`, the expected reply length (rule R11). -/
def replyLen (len : Nat) : Nat := 2 * len + 11

/-- TX_CAP = 11 + 2 x MAX_LEN (rule R10, D12). -/
def txCap (p : Params) : Nat := 2 * p.maxLen + 11

/-- RX_CAP = N_DRAIN (rule R10, D19). -/
def rxCap (p : Params) : Nat := p.nDrain

/-- ALEN (rule R26). -/
def alen (o : Operands) : Nat := o.abuf.length

/-- `slice(VAL, 0, LEN)` (rule R25). -/
def valueBytes (o : Operands) : Bytes := (o.val ++ List.replicate o.len 0).take o.len

/-- REG as its big-endian byte string (rule R22). -/
def hostReg (reg : BitVec 16) : Bytes := [reg.extractLsb' 8 8, reg.extractLsb' 0 8]

/-- WREG: the register bytes in wire order, least significant first (rules R62, R167). -/
def wireReg (reg : BitVec 16) : Bytes := [reg.extractLsb' 0 8, reg.extractLsb' 8 8]

/-- The address a decoded register field names (rule R98). -/
def regOfWire (w0 w1 : Byte) : BitVec 16 := w1 ++ w0

/-- AV as TOUNS reads it: a two's-complement integer of TW_MAX bits (rules R26, R137). -/
def avSigned (p : Params) (o : Operands) : Int := twosc o.av p.twMax

/-- TWOSC requires `1 <= AW <= TW_MAX` and `AV < 2^AW` (rule R135). -/
def twoscInRange (p : Params) (o : Operands) : Bool :=
  decide (1 ≤ o.aw) && decide (o.aw ≤ p.twMax) && fitsBits o.av o.aw

/-- TOUNS requires `1 <= AW <= TW_MAX` and `-2^(AW-1) <= s < 2^(AW-1)` (rule R137). -/
def tounsInRange (p : Params) (o : Operands) : Bool :=
  decide (1 ≤ o.aw) && decide (o.aw ≤ p.twMax)
    && decide (-(2 ^ (o.aw - 1) : Int) ≤ avSigned p o) && decide (avSigned p o < 2 ^ (o.aw - 1))

/-- The checks READ, WRITE, and BUILD and PARSE of those kinds make when accepted: a reserved FMT first, then
LEN above MAX_LEN (rules R111, R113, R293). -/
def fieldFailure (p : Params) (o : Operands) : Option FailCode :=
  if Format.ofBits o.fmt = none then some .format
  else if p.maxLen < o.len then some .operandRange
  else none

/-- The acceptance checks of a kind: PING and RESTART ignore FMT and LEN (rules R111, R223). -/
def acceptFailure (p : Params) (k : Kind) (o : Operands) : Option FailCode :=
  match k with
  | .ping => none
  | .restart => none
  | .read => fieldFailure p o
  | .write => fieldFailure p o

/-- Whether a latched format is numeric (rule R24). -/
def numericFmt (fmt : BitVec 3) : Bool := fmt.extractLsb' 0 2 == 0

/-- The override bit FMT[2] (rule R24). -/
def overrideFmt (fmt : BitVec 3) : Bool := fmt.getLsbD 2

end Sys2Proof.Machine
end

