-- ==== Sys2Proof/Machine/FrameBuild.lean ====
section
/-! DEFINITION. The frame builder's pure function (`42_frame_build.md`). -/

namespace Sys2Proof.Machine

/-- A frame with fields and checksum around the payload bytes that follow the command byte (rule R91). -/
def framed (cmdChar : Byte) (cmd : Byte) (fields : Bytes) : Bytes :=
  [markerByte, cmdChar] ++ hexenc fields ++ hexenc [checksum (cmd :: fields)] ++ [termByte]

/-- A frame of format SHORT (rule R92). -/
def shortFrame (cmdChar : Byte) : Bytes := [markerByte, cmdChar, termByte]

/-- The wire-order value of a WRITE: reversed for the int shape, as given otherwise (rules R63, R170). -/
def wireValue (p : Params) (o : Operands) : Option Bytes :=
  if numericFmt o.fmt then brev p (valueBytes o) else some (valueBytes o)

/-- `build(kind, REG, LEN, FMT, VAL)` (rules R165 to R171). -/
def build (p : Params) (k : Kind) (o : Operands) : Verdict Bytes :=
  match k with
  | .ping => .ok (shortFrame (cmdPing p))
  | .restart => .ok (shortFrame 0x36)
  | .read => .ok (framed 0x37 0x07 (wireReg o.reg ++ [flagsSent]))
  | .write =>
    match wireValue p o with
    | some w => .ok (framed 0x38 0x08 (wireReg o.reg ++ [flagsSent] ++ w))
    | none => .fail .width

end Sys2Proof.Machine
end

