-- ==== Sys2Proof/Machine/FrameParse.lean ====
section
/-! DEFINITION. The frame parser's pure function (`43_frame_parse.md`). -/

namespace Sys2Proof.Machine

/-- What a parse answers: whether it sets CSW (rule R198), and a value or a failure. -/
structure ParseResult where
  csw : Bool
  out : Verdict Value
deriving DecidableEq, Repr

/-- A parse that ends in a failure; it leaves CSW alone (rule R283). -/
def parseFail (c : FailCode) : ParseResult := { csw := false, out := .fail c }

/-- `slice(B, i, n)` where it is defined (rule R15). -/
def slice (b : Bytes) (i n : Nat) : Bytes := (b.drop i).take n

/-- A field of a reply decoded from hex, if every character is a hex digit (rule R189). -/
def hexField (b : Bytes) (i n : Nat) : Option Bytes :=
  match hexdec (slice b i n) with
  | .ok bs => some bs
  | .fail _ => none

/-- Decoding by format of the wire-order data `d` and its host-order form `h` (rules R199 to R202). -/
def decodeValue (fmt : BitVec 3) (len : Nat) (d h : Bytes) : Verdict Value :=
  match Format.ofBits fmt with
  | none => .fail .format
  | some f =>
    match f.shape with
    | .int => .ok { tag := .int, data := h }
    | .bytes => .ok { tag := .bytes, data := d }
    | .string => .ok { tag := .str, data := if f.override then d.take (len - 2) else d }

/-- Steps 5c, 5d and 6: the checksum comparison, the override, the decoding (rules R197 to R202). -/
def checkAndDecode (fmt : BitVec 3) (len : Nat) (payload d h : Bytes) (c : Byte) : ParseResult :=
  if checksum payload = c then { csw := false, out := decodeValue fmt len d h }
  else if overrideFmt fmt then { csw := true, out := decodeValue fmt len d h }
  else parseFail .checksum

/-- Step 5: data and checksum decoded, the data brought to host order for a numeric format (rules R194, R196). -/
def parseTail (p : Params) (cmd : Byte) (buf : Bytes) (o : Operands) (r g : Bytes) : ParseResult :=
  match hexField buf 8 (2 * o.len) with
  | none => parseFail .hexDigit
  | some d =>
    match hexField buf (8 + 2 * o.len) 2 with
    | none => parseFail .hexDigit
    | some c =>
      if numericFmt o.fmt then
        match brev p d with
        | none => parseFail .width
        | some h => checkAndDecode o.fmt o.len (cmd :: (r ++ g ++ h)) d h (c.headD 0)
      else checkAndDecode o.fmt o.len (cmd :: (r ++ g ++ d)) d d (c.headD 0)

/-- The parse of a READ or WRITE reply, steps 0 to 4 then step 5 (rules R187 to R193, R206). -/
def parseReply (p : Params) (cmdChar cmd : Byte) (buf : Bytes) (o : Operands) : ParseResult :=
  if buf.length < replyLen o.len then parseFail .tooShort
  else if buf.getD (replyLen o.len - 1) 0 ≠ termByte then parseFail .terminator
  else if buf.getD 0 0 ≠ markerByte ∨ buf.getD 1 0 ≠ cmdChar then parseFail .echoCommand
  else
    match hexField buf 2 4 with
    | none => parseFail .hexDigit
    | some r =>
      if r ≠ wireReg o.reg then parseFail .echoRegister
      else
        match hexField buf 6 2 with
        | none => parseFail .hexDigit
        | some g => if g ≠ [flagsSent] then parseFail .echoFlags else parseTail p cmd buf o r g

/-- The default PING_PARSE (rule R205). -/
def pingParseDefault (buf : Bytes) : Verdict Value :=
  if buf = [] then .fail .tooShort
  else if buf.getLastD 0 ≠ termByte then .fail .terminator
  else .ok { tag := .bytes, data := buf.dropLast }

/-- The values that rule R28 lets an OK result deliver: at most RES_CAP bytes, none for VOID, some for INT (whose
reading `signed_be` needs a byte, rule R15), the byte 0 or 1 for BOOL, any for BYTES and STR. -/
def legalValue (p : Params) (v : Value) : Bool :=
  decide (v.data.length ≤ p.resCap) &&
    match v.tag with
    | .void => v.data == []
    | .int => v.data != []
    | .bytes => true
    | .str => true
    | .bool => v.data == [0] || v.data == [1]

/-- What PING_PARSE may answer is an OK result of rule R28 or a failure, which has a code other than 0 (rule R282).
Where an open one answers anything else it is read as TOO_SHORT, so that every function to a result or a failure, and
no other, can be had (DESIGN CHOICE, assumption 6). Which failures: rule R205 says only "a failure", while rule R282's
column "Raised by" and rules R284 to R290 keep most codes to other conditions and operations; that an open PING_PARSE
may answer every code but 0, those of CodecError and IllegalOperation among them, is the model's own (DESIGN CHOICE,
assumption 6). -/
def properVerdict (p : Params) : Verdict Value → Verdict Value
  | .ok v => if legalValue p v then .ok v else .fail .tooShort
  | .fail c => .fail (if c = .noFailure then .tooShort else c)

/-- PING_PARSE, the parameter of rule R205: its default, or any function of the buffer. -/
def pingParse (p : Params) (buf : Bytes) : Verdict Value :=
  match p.pingRule with
  | .default => pingParseDefault buf
  | .unknown => properVerdict p (Config.pingParse buf)

/-- `parse(kind, buf, REG, LEN, FMT)` (rule R206). -/
def parse (p : Params) (k : Kind) (buf : Bytes) (o : Operands) : ParseResult :=
  match k with
  | .restart => parseFail .operandRange
  | .ping => { csw := false, out := pingParse p buf }
  | .read => parseReply p 0x37 0x07 buf o
  | .write => parseReply p 0x38 0x08 buf o

end Sys2Proof.Machine
end

