-- ==== Sys2Proof/Machine/Noise.lean ====
section
/-! DEFINITION. The noise predicate (`44_transaction_engine.md` rule R238). -/

namespace Sys2Proof.Machine

/-- `contains(B, S)`: `S` occurs in `B` as a contiguous substring (rule R15). -/
def containsSeq : Bytes → Bytes → Bool
  | [], s => s.isEmpty
  | x :: xs, s => s.isPrefixOf (x :: xs) || containsSeq xs s

/-- Whether a kind's reply has the REPLY layout, and so an expected length (rule R238). -/
def hasReplyLayout : Kind → Bool
  | .ping => false
  | .restart => false
  | .read => true
  | .write => true

/-- `is_noise(buf, kind, LEN)` (rule R238). -/
def isNoise (p : Params) (k : Kind) (len : Nat) (buf : Bytes) : Bool :=
  containsSeq buf [p.noiseSeq.1, p.noiseSeq.2]
    || containsSeq buf [p.noiseByte]
    || containsSeq buf [tabByte]
    || (hasReplyLayout k && decide (replyLen len < buf.length))

/-- The verdict of Classifying: non-empty and not noise (rule R239). -/
def captureAccepted (p : Params) (k : Kind) (len : Nat) (buf : Bytes) : Bool :=
  decide (0 < buf.length) && !isNoise p k len buf

end Sys2Proof.Machine
end

