-- ==== Sys2Proof/Machine/Flags.lean ====
section
/-! DEFINITION. The flags BUSY, CSW and CHOPEN (`10_state.md` rules R34 to R36). The block has no arithmetic
condition code. -/

namespace Sys2Proof.Machine

/-- BUSY: ST is not Idle (rule R34). -/
def State.busy (s : State) : Bool := s.st != .idle

/-- CSW as the parser leaves it: set when it tolerated a mismatch, otherwise kept (rules R35, R198). -/
def State.noteCsw (s : State) (mismatch : Bool) : State := { s with csw := s.csw || mismatch }

/-- CHOPEN after a ChOpen answered `ok` (rule R36). -/
def State.channelOpened (s : State) : State := { s with chOpen := true }

/-- CHOPEN after a ChClose request was made, whatever its answer (rule R36). -/
def State.channelClosed (s : State) : State := { s with chOpen := false }

end Sys2Proof.Machine
end

