-- ==== Sys2Proof/Machine/Channel.lean ====
section
/-! DEFINITION. The channel port: one request, its answer, its entry in the event trace (`10_state.md` rules R44
to R46), and `Delay` (`00_scope.md` rule R16). -/

namespace Sys2Proof.Machine

/-- What the environment answers next: what it has lined up, else a free value (rule R46, U16). -/
def State.nextDraw (s : State) : Draw :=
  match s.chScript with
  | d :: _ => d
  | [] => Config.chanDraw s.chDraws

/-- The answer a draw gives to a request, of the kind the request takes (rule R44). -/
def answerOf (r : Request) (d : Draw) : Answer :=
  if d.error then .error
  else
    match r with
    | .chOpen _ _ _ => .ok
    | .chWrite _ => .count d.count
    | .chAvail => .count d.count
    | .chReadByte =>
      match d.byte with
      | some b => .byte b
      | none => .nothing
    | .chFlushIn => .ok
    | .chClose => .ok

/-- One request made and answered: the draw is used up and the trace has one more entry (rule R45). -/
def State.request (s : State) (r : Request) : State :=
  { s with
    log := s.log ++ [.request r (answerOf r s.nextDraw)]
    chScript := s.chScript.tail
    chDraws := s.chDraws + 1 }

/-- `Delay(T)`: an entry of the trace and nothing more (rules R16, R45, R222). -/
def State.delay (s : State) (t : Nat) : State := { s with log := s.log ++ [.delay t] }

/-- Whether the next request answers `error`. -/
def State.nextError (s : State) : Bool := s.nextDraw.error

/-- The count the next ChWrite or ChAvail answers, or none for `error`. -/
def State.nextCount (s : State) : Option Nat := if s.nextDraw.error then none else some s.nextDraw.count

/-- The event trace of the last accepted transaction (rule R45). -/
def State.trace (s : State) : List Event := s.log.drop s.mark

end Sys2Proof.Machine
end

