-- ==== Sys2Proof/Machine/Ops.lean ====
section
/-! DEFINITION. The operations every meaning and every engine step is made of: the acceptance of a command
(`10_state.md` rule R47), the delivery of a result or of a failure (`60_exceptions.md` rule R296), the buffers
(`20_memory.md` rule R61), the entry to Sending (`44_transaction_engine.md` rule R225). -/

namespace Sys2Proof.Machine

/-- What a meaning answers. -/
abbrev Result := Host.Outcome State Fault Refusal

/-- TXLEN <- 0; the contents then have no value (rules R37, D38). -/
def State.clearTx (s : State) : State := { s with txBuf := [], txLen := 0 }

/-- RXLEN <- 0; the contents then have no value (rules R38, D38). -/
def State.clearRx (s : State) : State := { s with rxBuf := [], rxLen := 0 }

/-- `TXBUF <- F ; TXLEN <- len(F)`, where F fits (rules R61, R223). -/
def State.storeFrame (s : State) (f : Bytes) : Option State :=
  if f.length ≤ txCap s.params then some { s with txBuf := Memory.writeBytes [] 0 f, txLen := f.length } else none

/-- `slice(TXBUF, 0, TXLEN)`, where every byte has a value (rule R61). -/
def State.frame (s : State) : Option Bytes := Memory.readBytes s.txBuf 0 s.txLen

/-- `slice(RXBUF, 0, RXLEN)`, where every byte has a value (rule R61). -/
def State.capture (s : State) : Option Bytes := Memory.readBytes s.rxBuf 0 s.rxLen

/-- `RXBUF[RXLEN] <- b ; RXLEN <- RXLEN + 1`, where there is room (rules R61, R235). -/
def State.appendRx (s : State) (b : Byte) : Option State :=
  if s.rxLen < rxCap s.params then some { s with rxBuf := Memory.write s.rxBuf s.rxLen b, rxLen := s.rxLen + 1 }
  else none

/-- The closing ChClose request: CHOPEN <- 0 whatever the answer (rules R36, R302, R303). -/
def State.closeChannel (s : State) : State := (s.request .chClose).channelClosed

/-- The result registers of an OK result (rules R27, R28). -/
def okRegs (tag : ResTag) (data : Bytes) : ResultRegs :=
  { status := .ok, tag := tag, data := data, failKind := .none, failCode := .noFailure }

/-- The result registers of a failure (rules R28, R29, R296). -/
def failRegs (code : FailCode) : ResultRegs :=
  { status := .fail, tag := .void, data := [], failKind := failKindOf code, failCode := code }

/-- Back to Idle with both buffers emptied (rules R246, R296). -/
def State.toIdle (s : State) : State := { s.clearTx.clearRx with st := .idle }

/-- The OK result of a unit operation (rule R130). -/
def State.deliverUnit (s : State) (tag : ResTag) (data : Bytes) : State := { s with res := okRegs tag data }

/-- The OK result of a transaction, after its ChClose (rules R243, R246). -/
def State.deliverOk (s : State) (v : Value) : State := { s.toIdle with res := okRegs v.tag v.data }

/-- TAKING A FAILURE: `raise Failure(kind, code)` (rule R296). `close` says whether its step 2 makes the ChClose
request: when CHOPEN = 1 or the failing request was ChOpen, unless the raising rule has made it already or no
ChOpen was ever requested. -/
def State.raiseFailure (s : State) (close : Bool) (code : FailCode) : State :=
  { (if close then s.closeChannel else s).toIdle with res := failRegs code }

/-- Acceptance, which also ends the previous failure (rules R47, R297): the latches are written, the result
registers and CSW are cleared, and the port acknowledges. -/
def State.acceptCommand (s : State) (c : Command) : State :=
  { s with cmd := c, res := ResultRegs.cleared, csw := false, portAck := .accepted }

/-- CMD_REJECT: nothing changes but the acknowledgement (rule R47). -/
def State.rejectCommand (s : State) : State := { s with portAck := .rejected }

/-- Every operation starts here: a command is accepted only in Idle and rejected otherwise (rules R34, R47). -/
def onAccept (c : Command) (s : State) (run : State → Result) : Result :=
  if s.busy then .next s.rejectCommand else run (s.acceptCommand c)

/-- The end of a unit operation: the value, or the failure with no channel request (rules R130, R296). -/
def State.finishUnit (s : State) (v : Verdict Value) : State :=
  match v with
  | .ok x => s.deliverUnit x.tag x.data
  | .fail c => s.raiseFailure false c

/-- Entry to Sending (rule R225). -/
def State.enterSending (s : State) : State :=
  { s.clearRx with st := .sending, att := s.att + 1, pcnt := 0, dcnt := 0 }

end Sys2Proof.Machine
end

