-- ==== Sys2Proof/Machine/ChecksumOps.lean ====
section
/-! DEFINITION. The unit operations CSUM and CSUMCHK (`41_checksum.md`). -/

namespace Sys2Proof.Machine

/-- CSUM (rule R152). -/
def execCsum (o : Operands) (s : State) : Result :=
  onAccept { opr := 5, operands := o } s fun t =>
    .next (t.finishUnit (.ok { tag := .bytes, data := [checksum t.cmd.operands.abuf] }))

/-- The byte a BOOL result carries (rule R28). -/
def boolByte (b : Bool) : Byte := if b then 1 else 0

/-- CSUMCHK: a false comparison is an OK result with value 0 (rule R155). -/
def execCsumchk (o : Operands) (s : State) : Result :=
  onAccept { opr := 6, operands := o } s fun t =>
    .next (t.finishUnit (.ok { tag := .bool, data := [boolByte (csumchk t.cmd.operands.abuf t.cmd.operands.ac)] }))

end Sys2Proof.Machine
end

