-- ==== Sys2Proof/Machine/CodecOps.lean ====
section
/-! DEFINITION. The unit operations HEXENC, HEXDEC, TWOSC, TOUNS, BREV (`40_codec_ops.md`). -/

namespace Sys2Proof.Machine

/-- HEXENC (rule R131). -/
def execHexenc (o : Operands) (s : State) : Result :=
  onAccept { opr := 0, operands := o } s fun t =>
    .next (t.finishUnit (.ok { tag := .bytes, data := hexenc t.cmd.operands.abuf }))

/-- The value HEXDEC delivers (rule R133). -/
def hexdecValue (a : Bytes) : Verdict Value :=
  match hexdec a with
  | .ok bs => .ok { tag := .bytes, data := bs }
  | .fail c => .fail c

/-- HEXDEC (rule R133). -/
def execHexdec (o : Operands) (s : State) : Result :=
  onAccept { opr := 1, operands := o } s fun t => .next (t.finishUnit (hexdecValue t.cmd.operands.abuf))

/-- The value TWOSC delivers: `ceil(AW / 8)` bytes (rule R135). -/
def twoscValue (p : Params) (o : Operands) : Verdict Value :=
  if twoscInRange p o then .ok { tag := .int, data := beBytes ((o.aw + 7) / 8) (twosc o.av o.aw) }
  else .fail .operandRange

/-- TWOSC (rule R135). -/
def execTwosc (o : Operands) (s : State) : Result :=
  onAccept { opr := 2, operands := o } s fun t => .next (t.finishUnit (twoscValue t.params t.cmd.operands))

/-- The value TOUNS delivers: `floor(AW / 8) + 1` bytes (rule R137). -/
def tounsValue (p : Params) (o : Operands) : Verdict Value :=
  if tounsInRange p o then .ok { tag := .int, data := beBytes (o.aw / 8 + 1) (touns (avSigned p o) o.aw) }
  else .fail .operandRange

/-- TOUNS (rule R137). -/
def execTouns (o : Operands) (s : State) : Result :=
  onAccept { opr := 3, operands := o } s fun t => .next (t.finishUnit (tounsValue t.params t.cmd.operands))

/-- The value BREV delivers (rules R139, R140). -/
def brevValue (p : Params) (a : Bytes) : Verdict Value :=
  match brev p a with
  | some bs => .ok { tag := .bytes, data := bs }
  | none => .fail .revWidth

/-- BREV (rules R139, R140). -/
def execBrev (o : Operands) (s : State) : Result :=
  onAccept { opr := 4, operands := o } s fun t => .next (t.finishUnit (brevValue t.params t.cmd.operands.abuf))

end Sys2Proof.Machine
end

