-- ==== Sys2Proof/Machine/FrameOps.lean ====
section
/-! DEFINITION. The unit operations BUILD (`42_frame_build.md` rule R174) and PARSE (`43_frame_parse.md` rule
R206). -/

namespace Sys2Proof.Machine

/-- The value BUILD delivers: the checks, then the frame; TXBUF is not written (rule R174). -/
def buildValue (p : Params) (o : Operands) : Verdict Value :=
  match acceptFailure p (Kind.ofSub o.sub) o with
  | some c => .fail c
  | none =>
    match build p (Kind.ofSub o.sub) o with
    | .ok f => .ok { tag := .bytes, data := f }
    | .fail c => .fail c

/-- BUILD (rule R174). -/
def execBuild (o : Operands) (s : State) : Result :=
  onAccept { opr := 7, operands := o } s fun t => .next (t.finishUnit (buildValue t.params t.cmd.operands))

/-- What PARSE answers: the checks, then the parse of ABUF (rules R111, R113, R206). -/
def parseOperand (p : Params) (o : Operands) : ParseResult :=
  match acceptFailure p (Kind.ofSub o.sub) o with
  | some c => parseFail c
  | none => parse p (Kind.ofSub o.sub) o.abuf o

/-- PARSE (rule R206). -/
def execParse (o : Operands) (s : State) : Result :=
  onAccept { opr := 8, operands := o } s fun t =>
    .next ((t.noteCsw (parseOperand t.params t.cmd.operands).csw).finishUnit (parseOperand t.params t.cmd.operands).out)

end Sys2Proof.Machine
end

