-- ==== Sys2Proof/Machine/ReservedOps.lean ====
section
/-! DEFINITION. The reserved selectors 13, 14 and 15 (`30_encoding.md` rule R112). -/

namespace Sys2Proof.Machine

/-- OPR = 13 (rule R112). -/
def execReserved13 (o : Operands) (s : State) : Result :=
  onAccept { opr := 13, operands := o } s fun t => .next (t.finishUnit (.fail .illegalOp))

/-- OPR = 14 (rule R112). -/
def execReserved14 (o : Operands) (s : State) : Result :=
  onAccept { opr := 14, operands := o } s fun t => .next (t.finishUnit (.fail .illegalOp))

/-- OPR = 15 (rule R112). -/
def execReserved15 (o : Operands) (s : State) : Result :=
  onAccept { opr := 15, operands := o } s fun t => .next (t.finishUnit (.fail .illegalOp))

end Sys2Proof.Machine
end

