-- ==== Sys2Proof/Machine/TransactionOps.lean ====
section
/-! DEFINITION. The acceptance of PING, RESTART, READ and WRITE (`44_transaction_engine.md` rules R223, R224,
R250 to R253). The rest of a transaction is the engine's own steps. -/

namespace Sys2Proof.Machine

/-- Step 2 of rule R223: the counters and lengths; the event trace starts here (rule R45). -/
def State.startTransaction (s : State) : State :=
  { s.clearTx.clearRx with att := 0, ccnt := 0, pcnt := 0, dcnt := 0, mark := s.log.length }

/-- The ChOpen request with the configuration (rules R39 to R41, R223 step 6, R341). -/
def State.openRequest (s : State) : Request := .chOpen s.cfg.chId s.cfg.baud s.cfg.timeout

/-- Steps 6 to 8 of rule R223: open, then Sending; an `error` ends the transaction after one ChClose whose
answer is ignored (rule R302). The channel is opened with whatever the registers hold, as rule R326 says of the
hardware; that a transaction is not run before they are written is the command port's part (`requireConfigured`). -/
def State.openChannel (s : State) : State :=
  if s.nextError then (s.request s.openRequest).raiseFailure true .chOpen
  else (s.request s.openRequest).channelOpened.enterSending

/-- Steps 4 to 8 of rule R223 for a command that passed the checks. -/
def State.launch (s : State) (k : Kind) : Result :=
  match build s.params k s.cmd.operands with
  | .fail c => .next (s.raiseFailure false c)
  | .ok f =>
    match s.storeFrame f with
    | none => .fault .txOverflow
    | some t => .next t.openChannel

/-- Rule R223 after the latches are written. -/
def State.beginTransaction (s : State) (k : Kind) : Result :=
  match acceptFailure s.params k s.cmd.operands with
  | some c => .next (s.startTransaction.raiseFailure false c)
  | none => s.startTransaction.launch k

/-- PING (rule R250). -/
def execPing (o : Operands) (s : State) : Result :=
  onAccept { opr := 9, operands := o } s fun t => t.beginTransaction .ping

/-- RESTART (rule R251). -/
def execRestart (o : Operands) (s : State) : Result :=
  onAccept { opr := 10, operands := o } s fun t => t.beginTransaction .restart

/-- READ (rule R252). -/
def execRead (o : Operands) (s : State) : Result :=
  onAccept { opr := 11, operands := o } s fun t => t.beginTransaction .read

/-- WRITE (rule R253). -/
def execWrite (o : Operands) (s : State) : Result :=
  onAccept { opr := 12, operands := o } s fun t => t.beginTransaction .write

end Sys2Proof.Machine
end

