-- ==== Sys2Proof/Machine/Dispatch.lean ====
section
/-! DEFINITION. The operations of the command port: one arm per row of the opcode table, each a call of its
meaning. -/

namespace Sys2Proof.Machine

-- The operation a command presents (`30_encoding.md` rule R110).
def exec (i : Instr) (s : State) : Host.Outcome State Fault Refusal :=
  match i with
  | .hexenc o => Sys2Proof.Machine.execHexenc o s
  | .hexdec o => Sys2Proof.Machine.execHexdec o s
  | .twosc o => Sys2Proof.Machine.execTwosc o s
  | .touns o => Sys2Proof.Machine.execTouns o s
  | .brev o => Sys2Proof.Machine.execBrev o s
  | .csum o => Sys2Proof.Machine.execCsum o s
  | .csumchk o => Sys2Proof.Machine.execCsumchk o s
  | .build o => Sys2Proof.Machine.execBuild o s
  | .parse o => Sys2Proof.Machine.execParse o s
  | .ping o => Sys2Proof.Machine.execPing o s
  | .restart o => Sys2Proof.Machine.execRestart o s
  | .read o => Sys2Proof.Machine.execRead o s
  | .write o => Sys2Proof.Machine.execWrite o s
  | .reserved13 o => Sys2Proof.Machine.execReserved13 o s
  | .reserved14 o => Sys2Proof.Machine.execReserved14 o s
  | .reserved15 o => Sys2Proof.Machine.execReserved15 o s

end Sys2Proof.Machine
end

