-- ==== Sys2Proof/Machine/Engine.lean ====
section
/-! DEFINITION. The transaction engine's own steps, one per row of the transition table
(`44_transaction_engine.md` rules R221, R222). -/

namespace Sys2Proof.Machine

/-- A channel request answered `error`: the transaction ends, whatever ATT is (rules R300, R301). `s` is the
state after the request. -/
def State.channelError (s : State) (code : FailCode) : Result := .next (s.raiseFailure s.chOpen code)

/-- A new attempt, or Exhausted after the fifth (rules R227, R242). -/
def State.nextAttempt (s : State) : State :=
  if s.att < maxAttempts then s.enterSending else { s with st := .exhausted }

/-- RESTART after a complete write: close and deliver OK VOID, or CH_CLOSE (rules R243, R303). -/
def State.finishRestart (s : State) : State :=
  if s.nextError then s.closeChannel.raiseFailure false .chClose
  else s.closeChannel.deliverOk { tag := .void, data := [] }

/-- Sending (rules R226 to R228, R243). -/
def sendStep (k : Kind) (s : State) : Result :=
  match s.frame with
  | none => .fault .txUnwritten
  | some f =>
    match s.nextCount with
    | none => (s.request (.chWrite f)).channelError .chWrite
    | some n =>
      if n ≠ s.txLen then .next (s.request (.chWrite f)).nextAttempt
      else if k = .restart then .next (s.request (.chWrite f)).finishRestart
      else .next { s.request (.chWrite f) with st := .awaitingData }

/-- An unsuccessful poll: poll again after a delay, or give up after poll number N_POLL (rules R230, R232). -/
def State.pollFailed (s : State) : State :=
  if s.pcnt + 1 < s.params.nPoll then { s.delay s.params.tPoll with pcnt := s.pcnt + 1 }
  else { s with pcnt := s.pcnt + 1, st := .classifying }

/-- AwaitingData: one poll (rules R230 to R232). -/
def pollStep (s : State) : Result :=
  match s.nextCount with
  | none => (s.request .chAvail).channelError .chAvail
  | some 0 => .next (s.request .chAvail).pollFailed
  | some (_ + 1) => .next { s.request .chAvail with st := .draining }

/-- The read of one drain iteration (rule R235). -/
def drainRead (s : State) : Result :=
  if s.nextError then (s.request .chReadByte).channelError .chRead
  else
    match s.nextDraw.byte with
    | none => .next { s.request .chReadByte with st := .classifying }
    | some b =>
      match (s.request .chReadByte).appendRx b with
      | none => .fault .rxOverflow
      | some t => .next { t.delay t.params.tPace with dcnt := t.dcnt + 1 }

/-- Draining: one iteration, or its end at the bound (rules R235 to R237). -/
def drainStep (s : State) : Result :=
  if s.params.nDrain ≤ s.dcnt then .next { s with st := .classifying }
  else
    match s.nextCount with
    | none => (s.request .chAvail).channelError .chAvail
    | some 0 => .next { s.request .chAvail with st := .classifying }
    | some (_ + 1) => drainRead (s.request .chAvail)

/-- Classifying: the verdict on the capture; no channel request (rule R239). -/
def classifyStep (k : Kind) (s : State) : Result :=
  match s.capture with
  | none => .fault .rxUnwritten
  | some buf =>
    .next { s with st := if captureAccepted s.params k s.cmd.operands.len buf then .accepted else .noisyRetry }

/-- The cancel sequence of two bytes (rule R10, D23). -/
def cancelBytes (p : Params) : Bytes := [p.cancelSeq.1, p.cancelSeq.2]

/-- Steps 5 and 6 of the recovery sequence, then the next attempt (rules R240, R242). -/
def recoverFlush (s : State) : Result :=
  if s.nextError then (s.request .chFlushIn).channelError .chFlush
  else .next ((s.request .chFlushIn).delay s.params.tPause2).nextAttempt

/-- Steps 3 and 4 of the recovery sequence: one read, its answer discarded, and a pause (rule R240). -/
def recoverRead (s : State) : Result :=
  if s.nextError then (s.request .chReadByte).channelError .chRead
  else recoverFlush ((s.request .chReadByte).delay s.params.tPause1)

/-- NoisyRetry: the recovery sequence (rules R33, R240, R242). -/
def recoverStep (s : State) : Result :=
  if s.nextError then ({ s with ccnt := s.ccnt + 1 }.request (.chWrite (cancelBytes s.params))).channelError .chWrite
  else recoverRead ({ s with ccnt := s.ccnt + 1 }.request (.chWrite (cancelBytes s.params)))

/-- Exhausted (rule R245). -/
def exhaustedStep (k : Kind) (s : State) : Result :=
  if k = .restart then .next (s.raiseFailure s.chOpen .writeShort) else .next { s with st := .parsed }

/-- Steps 2 to 4 of Parsed: one ChClose; its `error` replaces an OK result only (rules R246, R303). `s` is the
state with CSW as the parse left it. -/
def State.finishParsed (s : State) (out : Verdict Value) : State :=
  match out with
  | .fail c => s.closeChannel.raiseFailure false c
  | .ok v => if s.nextError then s.closeChannel.raiseFailure false .chClose else s.closeChannel.deliverOk v

/-- Parsed (rules R185, R246). -/
def parsedStep (k : Kind) (s : State) : Result :=
  match s.capture with
  | none => .fault .rxUnwritten
  | some buf =>
    .next ((s.noteCsw (parse s.params k buf s.cmd.operands).csw).finishParsed
      (parse s.params k buf s.cmd.operands).out)

/-- The engine's step in a state of a transaction of kind `k` (rule R221). -/
def transactionStep (k : Kind) (s : State) : Result :=
  match s.st with
  | .idle => .next s
  | .sending => sendStep k s
  | .awaitingData => pollStep s
  | .draining => drainStep s
  | .classifying => classifyStep k s
  | .accepted => .next { s with st := .parsed }
  | .noisyRetry => recoverStep s
  | .parsed => parsedStep k s
  | .exhausted => exhaustedStep k s

/-- The engine's step: in Idle it waits; otherwise OPR says which transaction is under way (rules R30, R220). -/
def engineStep (s : State) : Result :=
  if s.busy then
    match Kind.ofOpr s.cmd.opr with
    | none => .fault .noTransaction
    | some k => transactionStep k s
  else .next s

end Sys2Proof.Machine
end

