-- ==== Sys2Proof/Machine/Ports.lean ====
section
/-! DEFINITION. The host's side of the block: a command presented (`10_state.md` rule R47), the configuration
registers (rules R39 to R43), RESET (`70_reset_and_hazards.md` rules R320 to R324), and what the host reads
(rule R48). -/

namespace Sys2Proof.Machine

/-- Both configuration registers without a reset value have been written: rule R326's precondition. -/
def State.configured (s : State) : Bool := s.cfg.chIdWritten && s.cfg.timeoutWritten

/-- Rule R326: a transaction that requests ChOpen before the block is configured is not run. `s` is the state the
command was presented in and `r` what its operation answers; an operation makes no channel request but the ChOpen of a
transaction that starts and the ChClose after it, so that one is made exactly where the trace grows. -/
def requireConfigured (s : State) (r : Result) : Result :=
  match r with
  | .next t => if s.configured || t.log.length == s.log.length then .next t else .refused .notConfigured
  | .fault e => .fault e
  | .refused e => .refused e

/-- A command presented on the command port: decoded and run (rules R47, R110), with rule R326's precondition. -/
def presentCommand (c : Command) (s : State) : Result :=
  match decode s.params c with
  | .error e => .refused (.commandNotExpressible e)
  | .ok i => requireConfigured s (exec i s)

/-- A configuration write: performed in Idle, ignored otherwise (rule R43). -/
def State.writeConfig (s : State) (cfg : ConfigRegs) : State := if s.busy then s else { s with cfg := cfg }

/-- A write of CFG_CH_ID, a register of CHID_W bits (rule R39). -/
def writeChId (v : Nat) (s : State) : Result :=
  if fitsBits v s.params.chidW then .next (s.writeConfig { s.cfg with chId := v, chIdWritten := true })
  else .refused .chIdNotExpressible

/-- One host action. While the host waits the engine takes its step. -/
def hostStep (a : HostAct) (s : State) : Result :=
  match a with
  | .wait => engineStep s
  | .command c => presentCommand c s
  | .writeChId v => writeChId v s
  | .writeBaud v => .next (s.writeConfig { s.cfg with baud := v })
  | .writeTimeout v => .next (s.writeConfig { s.cfg with timeout := v, timeoutWritten := true })
  | .writeDebug v => .next (s.writeConfig { s.cfg with debug := v })

/-- Every register at its reset value; what is outside the block, the parameters and the record of what was
done on the channel stay (rules R321, R322, R45). -/
def State.resetRegs (s : State) : State :=
  { State.reset with
    params := s.params
    hostIn := s.hostIn
    chScript := s.chScript
    chDraws := s.chDraws
    log := s.log
    mark := s.mark }

/-- How many entries of a trace are channel requests. -/
def requestCount : List Event → Nat
  | [] => 0
  | .request _ _ :: rest => requestCount rest + 1
  | .delay _ :: rest => requestCount rest

/-- The first `k` channel events of a step that led from `s` to `t`. -/
def eventsBefore (k : Nat) (s t : State) : List Event := (t.log.drop s.log.length).take k

/-- RESET after the first `k` channel events of the step from `s` to `t`: those were made, no further request
is, and the registers are reset (rules R320, R322, R323). -/
def resetDuring (k : Nat) (s t : State) : State :=
  { s.resetRegs with
    log := s.log ++ eventsBefore k s t
    mark := t.mark
    chScript := s.chScript.drop (requestCount (eventsBefore k s t))
    chDraws := s.chDraws + requestCount (eventsBefore k s t) }

/-- A step that a RESET may cut short (rule R320). A step that stops makes no channel event, so that a RESET that comes
with it installs the reset state and the trace stays as it is. Where rule R326 is what stops it, an unconfigured
transaction with a RESET after its ChOpen (`some k` with `k` at least 1), this is the model's own: the spec says neither
that the RESET wins nor that the refusal does (DESIGN CHOICE, assumptions 7 and 11). -/
def withReset (reset : Option Nat) (s : State) (r : Result) : Result :=
  match reset with
  | none => r
  | some k =>
    match r with
    | .next t => .next (resetDuring k s t)
    | .fault _ => .next s.resetRegs
    | .refused _ => .next s.resetRegs

/-- One input from outside (rules R43, R47, R320). -/
def inputStep (h : HostInput) (s : State) : Result := withReset h.reset s (hostStep h.act s)

/-- One step of the machine: the outside's next input, or the engine alone when none is lined up. -/
def machineStep (s : State) : Result :=
  match s.hostIn with
  | [] => engineStep s
  | h :: rest => inputStep h { s with hostIn := rest }

/-- What the host reads on the result port (rule R48). -/
structure ResultPort where
  resStatus : BitVec 2
  resTag : BitVec 3
  resLen : Nat
  resData : Bytes
  failKind : BitVec 3
  failCode : BitVec 5
  csw : Bool
  att : Nat
  ccnt : Nat
  busy : Bool
  chOpen : Bool
deriving DecidableEq, Repr

/-- The result port (rule R48). Reading it changes nothing. -/
def State.resultPort (s : State) : ResultPort :=
  { resStatus := resStatusBits s.res.status
    resTag := resTagBits s.res.tag
    resLen := s.res.data.length
    resData := s.res.data
    failKind := failKindBits s.res.failKind
    failCode := failCodeBits s.res.failCode
    csw := s.csw
    att := s.att
    ccnt := s.ccnt
    busy := s.busy
    chOpen := s.chOpen }

/-- The integer an INT result delivers (rules R28, R199). -/
def State.resInt (s : State) : Int := signedBe s.res.data

/-- An operation is complete when a result stands and the block is not busy (rule R48). -/
def State.complete (s : State) : Bool := s.res.status != .none && !s.busy

/-- What a host-side wrapper returns: the value, or the one sentinel for every failure (rule R280, D34); that the two
have one type is the model's own (assumption 22). -/
def State.sentinelView (s : State) : Option Bytes :=
  match s.res.status with
  | .none => none
  | .ok => some s.res.data
  | .fail => some Config.sentinel

end Sys2Proof.Machine
end

