-- ==== Sys2Proof/Machine/Step.lean ====
section
/-! DEFINITION. One step of the machine, and how a word of the opcode table is placed where the next step
fetches it. -/

namespace Sys2Proof.Machine

/-- One step: the outside's next input, or the engine alone (rules R13, R222). -/
def step (s : State) : Host.Outcome State Fault Refusal := machineStep s

/-- The command a word of the opcode table stands for, presented at the next step to a block that is Idle
(rule R47: the port takes a command only then) and whose host has written CFG_CH_ID and CFG_TIMEOUT, with the values
they hold (rules R325 step 2, R326: a transaction is run only then). -/
def State.withFetchWord (s : State) (nbits w : Nat) : State :=
  { s with
    st := .idle
    cfg := { s.cfg with chIdWritten := true, timeoutWritten := true }
    hostIn := { act := .command (tableCommand nbits w), reset := none } :: s.hostIn }

end Sys2Proof.Machine
end

