-- ==== Sys2Proof/Safety.lean ====
section
/-! DEFINITION. What counts as a safe run: the invariants of the state, the counts of the channel event trace, the
bound on a transaction, and the frames the statements speak of. -/

namespace Sys2Proof.Machine

/-- `checksum`'s own statement in the sum form: the byte `c` makes the sum of the payload and itself 85 modulo
256 (rule R154 law 4). -/
def sumsTo85 (payload : Bytes) (c : Byte) : Prop := ((payload.map BitVec.toNat).sum + c.toNat) % 256 = 85

/-- A step that stops with no fault. -/
def State.faultFree (s : State) : Prop := ∀ r, step s ≠ .fault r

/-- The buffers (rules R37, R38, R61): canonical, within capacity, exactly the indices below the length have a
value. -/
structure BufferInv (s : State) : Prop where
  txWf : Memory.wf s.txBuf
  rxWf : Memory.wf s.rxBuf
  txCells : ∀ a, (Memory.read s.txBuf a).isSome = true ↔ a < s.txLen
  rxCells : ∀ a, (Memory.read s.rxBuf a).isSome = true ↔ a < s.rxLen
  txFits : s.txLen ≤ txCap s.params
  rxFits : s.rxLen ≤ rxCap s.params

/-- The counters never pass their bounds (rules R31 to R33, R157). -/
structure CounterInv (s : State) : Prop where
  att : s.att ≤ maxAttempts
  ccnt : s.ccnt ≤ s.att
  pcnt : s.pcnt ≤ s.params.nPoll
  dcnt : s.dcnt ≤ s.params.nDrain

/-- In Idle the channel is closed and no frame state is left (rules R36 to R38). -/
structure IdleInv (s : State) : Prop where
  closed : s.st = .idle → s.chOpen = false
  txEmpty : s.st = .idle → s.txLen = 0
  rxEmpty : s.st = .idle → s.rxLen = 0

/-- While a transaction is under way: the channel is open, an attempt has been started, no result stands, no
checksum mismatch has been noted (rules R27, R31, R35, R36). -/
structure BusyInv (s : State) : Prop where
  opened : s.st ≠ .idle → s.chOpen = true
  started : s.st ≠ .idle → 1 ≤ s.att
  noResult : s.st ≠ .idle → s.res = ResultRegs.cleared
  noWarning : s.st ≠ .idle → s.csw = false

/-- What each state of the engine says of the counters (rules R225, R232, R236, R242, R243, R251). -/
structure PhaseInv (s : State) : Prop where
  sending : s.st = .sending → s.rxLen = 0 ∧ s.pcnt = 0 ∧ s.dcnt = 0
  awaiting : s.st = .awaitingData → s.rxLen = 0 ∧ s.dcnt = 0 ∧ s.pcnt < s.params.nPoll
  captured : s.st = .draining ∨ s.st = .classifying ∨ s.st = .accepted ∨ s.st = .noisyRetry → s.rxLen = s.dcnt
  beforeRecovery : s.st = .sending ∨ s.st = .awaitingData ∨ s.st = .draining ∨ s.st = .classifying ∨
    s.st = .accepted ∨ s.st = .noisyRetry → s.ccnt < s.att
  exhausted : s.st = .exhausted → s.att = maxAttempts
  restart : s.st ≠ .idle → s.cmd.opr = 10 → s.st = .sending ∨ s.st = .exhausted

/-- The frame in TXBUF is the one built from the latched command, which passed the acceptance checks (rules R37,
R78, R165). -/
def HeldInv (s : State) : Prop :=
  s.st ≠ .idle → ∃ k f, Kind.ofOpr s.cmd.opr = some k ∧ acceptFailure s.params k s.cmd.operands = none ∧
    build s.params k s.cmd.operands = .ok f ∧ s.frame = some f ∧ s.txLen = f.length

/-- What an OK result of this tag may deliver (rule R28): at most RES_CAP bytes; none with VOID, at least one with INT,
the one byte 0 or 1 with BOOL. -/
structure DeliverableAs (p : Params) (tag : ResTag) (data : Bytes) : Prop where
  fits : data.length ≤ max (2 * p.abufCap) (max (11 + 2 * p.maxLen) p.nDrain)
  void : tag = .void → data = []
  int : tag = .int → data ≠ []
  bool : tag = .bool → data = [0] ∨ data = [1]

/-- The result registers agree among themselves (rules R27 to R29, R282): no value and no failure while there is no
result; a value of its tag and no failure with OK; a failure of the kind its code has and no value with FAIL. -/
structure ResultInv (s : State) : Prop where
  none : s.res.status = .none → s.res = ResultRegs.cleared
  ok : s.res.status = .ok →
    s.res.failKind = .none ∧ s.res.failCode = .noFailure ∧ DeliverableAs s.params s.res.tag s.res.data
  fail : s.res.status = .fail →
    s.res.tag = .void ∧ s.res.data = [] ∧ s.res.failCode ≠ .noFailure ∧ s.res.failKind = failKindOf s.res.failCode

/-- Each latched operand fits its latch (rules R25, R26). -/
structure LatchInv (s : State) : Prop where
  val : s.cmd.operands.val.length ≤ s.params.maxLen
  abuf : s.cmd.operands.abuf.length ≤ s.params.abufCap
  av : s.cmd.operands.av < 2 ^ s.params.twMax
  aw : s.cmd.operands.aw ≤ s.params.twMax

/-- The invariant of the block. -/
structure Inv (s : State) : Prop where
  latched : LatchInv s
  result : ResultInv s
  buffers : BufferInv s
  counters : CounterInv s
  idle : IdleInv s
  busy : BusyInv s
  phase : PhaseInv s
  held : HeldInv s

/-- How many entries of a trace are a request of a given sort. -/
def countRequests (p : Request → Bool) : List Event → Nat
  | [] => 0
  | .request r _ :: rest => countRequests p rest + (if p r then 1 else 0)
  | .delay _ :: rest => countRequests p rest

/-- A ChWrite request with this argument. -/
def isWriteOf (b : Bytes) : Request → Bool
  | .chWrite c => c == b
  | _ => false

/-- A ChOpen request. -/
def isOpen : Request → Bool
  | .chOpen _ _ _ => true
  | _ => false

/-- A ChAvail request. -/
def isAvail : Request → Bool
  | .chAvail => true
  | _ => false

/-- A ChReadByte request. -/
def isRead : Request → Bool
  | .chReadByte => true
  | _ => false

/-- A ChFlushIn request. -/
def isFlush : Request → Bool
  | .chFlushIn => true
  | _ => false

/-- A ChClose request. -/
def isClose : Request → Bool
  | .chClose => true
  | _ => false

/-- `sends` of rule R45: the ChWrite entries whose argument is the built frame. -/
def sends (f : Bytes) (trace : List Event) : Nat := countRequests (isWriteOf f) trace

/-- `cancels` of rule R45: the ChWrite entries whose argument is CANCEL_SEQ. -/
def cancels (p : Params) (trace : List Event) : Nat := countRequests (isWriteOf (cancelBytes p)) trace

/-- The ChAvail requests this attempt may have made (rules R230, R236). -/
def availAllowance (s : State) : Nat :=
  match s.st with
  | .idle => 0
  | .sending => 0
  | .awaitingData => s.pcnt
  | .draining => s.params.nPoll + s.dcnt
  | _ => s.params.nPoll + s.params.nDrain

/-- The ChReadByte requests this attempt may have made (rules R236, R240). -/
def readAllowance (s : State) : Nat :=
  match s.st with
  | .idle => 0
  | .sending => 0
  | .awaitingData => 0
  | .draining => s.dcnt
  | .classifying => s.params.nDrain
  | .noisyRetry => s.params.nDrain
  | _ => s.params.nDrain + 1

/-- The event trace of the transaction under way (rules R45, R247, R248): one ChOpen, its first event; no
ChClose yet; one frame write per attempt and one cancel write and one flush per recovery sequence; the polls and
reads within the bounds of the attempts made. -/
structure TraceInv (s : State) : Prop where
  marked : s.mark ≤ s.log.length
  opened : s.st ≠ .idle → s.trace.head? = some (.request s.openRequest .ok)
  oneOpen : s.st ≠ .idle → countRequests isOpen s.trace = 1
  noClose : s.st ≠ .idle → countRequests isClose s.trace = 0
  sent : ∀ f, s.st ≠ .idle → s.frame = some f → sends f s.trace + (if s.st = .sending then 1 else 0) = s.att
  cancelled : s.st ≠ .idle → cancels s.params s.trace = s.ccnt
  flushed : s.st ≠ .idle → countRequests isFlush s.trace = s.ccnt
  polled : s.st ≠ .idle →
    countRequests isAvail s.trace ≤ (s.att - 1) * (s.params.nPoll + s.params.nDrain) + availAllowance s
  read : s.st ≠ .idle → countRequests isRead s.trace ≤ (s.att - 1) * (s.params.nDrain + 1) + readAllowance s

/-- The steps one attempt may take beyond the recovery and the verdict. -/
def attemptSteps (p : Params) : Nat := p.nPoll + p.nDrain + 5

/-- How many engine steps a transaction can still take (rule R248). -/
def rank (s : State) : Nat :=
  match s.st with
  | .idle => 0
  | .parsed => 1
  | .accepted => 2
  | .exhausted => 2
  | .noisyRetry => (maxAttempts - s.att) * attemptSteps s.params + 3
  | .classifying => (maxAttempts - s.att) * attemptSteps s.params + 4
  | .draining => (maxAttempts - s.att) * attemptSteps s.params + 5 + (s.params.nDrain - s.dcnt)
  | .awaitingData =>
    (maxAttempts - s.att) * attemptSteps s.params + 6 + s.params.nDrain + (s.params.nPoll - s.pcnt)
  | .sending => (maxAttempts - s.att) * attemptSteps s.params + 7 + s.params.nDrain + s.params.nPoll

/-- The most engine steps one transaction takes after its acceptance (rule R248). -/
def transactionBound (p : Params) : Nat := maxAttempts * attemptSteps p + 2

/-- Nothing but the latches, the result registers, CSW and the port's acknowledgement differs: the frame of a
unit operation that succeeds (rule R130). -/
structure UnitFrame (c : Command) (s t : State) : Prop where
  latched : t.cmd = c
  ack : t.portAck = .accepted
  st : t.st = s.st
  att : t.att = s.att
  pcnt : t.pcnt = s.pcnt
  dcnt : t.dcnt = s.dcnt
  ccnt : t.ccnt = s.ccnt
  chOpen : t.chOpen = s.chOpen
  txLen : t.txLen = s.txLen
  rxLen : t.rxLen = s.rxLen
  txBytes : ∀ a, Memory.read t.txBuf a = Memory.read s.txBuf a
  rxBytes : ∀ a, Memory.read t.rxBuf a = Memory.read s.rxBuf a
  cfg : t.cfg = s.cfg
  params : t.params = s.params
  hostIn : t.hostIn = s.hostIn
  chScript : t.chScript = s.chScript
  chDraws : t.chDraws = s.chDraws
  log : t.log = s.log
  mark : t.mark = s.mark

/-- The frame of a failure delivered with no channel request (rule R296, steps 3 to 5): the buffers are empty, the
block is Idle, and beside the latches, the result registers, CSW and the acknowledgement nothing else differs. -/
structure FailFrame (c : Command) (s t : State) : Prop where
  latched : t.cmd = c
  ack : t.portAck = .accepted
  st : t.st = .idle
  att : t.att = s.att
  pcnt : t.pcnt = s.pcnt
  dcnt : t.dcnt = s.dcnt
  ccnt : t.ccnt = s.ccnt
  csw : t.csw = false
  chOpen : t.chOpen = s.chOpen
  txLen : t.txLen = 0
  rxLen : t.rxLen = 0
  txBytes : ∀ a, Memory.read t.txBuf a = none
  rxBytes : ∀ a, Memory.read t.rxBuf a = none
  cfg : t.cfg = s.cfg
  params : t.params = s.params
  hostIn : t.hostIn = s.hostIn
  chScript : t.chScript = s.chScript
  chDraws : t.chDraws = s.chDraws
  log : t.log = s.log
  mark : t.mark = s.mark

/-- The result registers say OK with this tag and these bytes, and no failure (rules R27 to R29). -/
def State.delivers (t : State) (tag : ResTag) (data : Bytes) : Prop :=
  t.res.status = .ok ∧ t.res.tag = tag ∧ t.res.data = data ∧ t.res.failKind = .none ∧ t.res.failCode = .noFailure

/-- The result registers say FAIL with this kind and code, and no value (rules R28, R29). -/
def State.fails (t : State) (kind : FailKind) (code : FailCode) : Prop :=
  t.res.status = .fail ∧ t.res.tag = .void ∧ t.res.data = [] ∧ t.res.failKind = kind ∧ t.res.failCode = code

/-- What a transaction that was just opened leaves (rules R223 to R225): Sending, the first attempt, the frame
held, the trace its ChOpen; the configuration, the parameters and the host's inputs as before. -/
structure Started (c : Command) (s t : State) (f : Bytes) : Prop where
  latched : t.cmd = c
  ack : t.portAck = .accepted
  noResult : t.res = ResultRegs.cleared
  csw : t.csw = false
  st : t.st = .sending
  att : t.att = 1
  pcnt : t.pcnt = 0
  dcnt : t.dcnt = 0
  ccnt : t.ccnt = 0
  chOpen : t.chOpen = true
  frame : t.frame = some f
  txLen : t.txLen = f.length
  txRest : ∀ a, f.length ≤ a → Memory.read t.txBuf a = none
  rxLen : t.rxLen = 0
  rxBytes : ∀ a, Memory.read t.rxBuf a = none
  cfg : t.cfg = s.cfg
  params : t.params = s.params
  hostIn : t.hostIn = s.hostIn
  trace : t.trace = [.request (.chOpen s.cfg.chId s.cfg.baud s.cfg.timeout) .ok]
  log : t.log = s.log ++ [.request (.chOpen s.cfg.chId s.cfg.baud s.cfg.timeout) .ok]
  chScript : t.chScript = s.chScript.tail
  chDraws : t.chDraws = s.chDraws + 1

/-- An engine step of a transaction leaves what it was given by the host and the build alone (rules R78, R165):
the latches, the frame, the configuration, the parameters, the host's inputs, the acknowledgement. -/
structure EngineFrame (s t : State) : Prop where
  cmd : t.cmd = s.cmd
  ack : t.portAck = s.portAck
  cfg : t.cfg = s.cfg
  params : t.params = s.params
  hostIn : t.hostIn = s.hostIn
  mark : t.mark = s.mark

/-- TXBUF and TXLEN are unchanged. -/
def SameTx (s t : State) : Prop := t.txLen = s.txLen ∧ ∀ a, Memory.read t.txBuf a = Memory.read s.txBuf a

/-- RXBUF and RXLEN are unchanged. -/
def SameRx (s t : State) : Prop := t.rxLen = s.rxLen ∧ ∀ a, Memory.read t.rxBuf a = Memory.read s.rxBuf a

/-- The result registers and the flags CSW and CHOPEN are unchanged. -/
def SameResult (s t : State) : Prop := t.res = s.res ∧ t.csw = s.csw ∧ t.chOpen = s.chOpen

/-- The block is back in Idle with nothing left of the frame and the capture (rules R246, R296). -/
def BackToIdle (t : State) : Prop :=
  t.st = .idle ∧ t.txLen = 0 ∧ t.rxLen = 0 ∧ t.chOpen = false ∧
    (∀ a, Memory.read t.txBuf a = none) ∧ (∀ a, Memory.read t.rxBuf a = none)

/-- A failure delivered while a transaction is accepted, before any channel request (rule R223, steps 2 to 4): the
counters are 0, the event trace is empty, the block is Idle. -/
structure RefusedFrame (c : Command) (s t : State) : Prop where
  latched : t.cmd = c
  ack : t.portAck = .accepted
  st : t.st = .idle
  att : t.att = 0
  pcnt : t.pcnt = 0
  dcnt : t.dcnt = 0
  ccnt : t.ccnt = 0
  csw : t.csw = false
  chOpen : t.chOpen = s.chOpen
  txLen : t.txLen = 0
  rxLen : t.rxLen = 0
  txBytes : ∀ a, Memory.read t.txBuf a = none
  rxBytes : ∀ a, Memory.read t.rxBuf a = none
  cfg : t.cfg = s.cfg
  params : t.params = s.params
  hostIn : t.hostIn = s.hostIn
  chScript : t.chScript = s.chScript
  chDraws : t.chDraws = s.chDraws
  log : t.log = s.log
  trace : t.trace = []

/-- The channel answer that the `i`-th request from now on draws (rule R46). -/
def State.drawAt (s : State) (i : Nat) : Draw :=
  match s.chScript[i]? with
  | some d => d
  | none => Config.chanDraw (s.chDraws + i)

/-- `n` channel answers have been used up. -/
def Consumed (n : Nat) (s t : State) : Prop := t.chScript = s.chScript.drop n ∧ t.chDraws = s.chDraws + n

/-- The counters ATT, CCNT, PCNT and DCNT are these (rules R31 to R33). -/
def CountersAre (t : State) (att ccnt pcnt dcnt : Nat) : Prop :=
  t.att = att ∧ t.ccnt = ccnt ∧ t.pcnt = pcnt ∧ t.dcnt = dcnt

/-- Every field at the value rule R51 states for it; CFG_CH_ID and CFG_TIMEOUT, which it leaves unspecified, are not
spoken of. -/
structure AtResetValues (t : State) : Prop where
  st : t.st = .idle
  att : t.att = 0
  pcnt : t.pcnt = 0
  dcnt : t.dcnt = 0
  ccnt : t.ccnt = 0
  busy : t.busy = false
  csw : t.csw = false
  chOpen : t.chOpen = false
  opr : t.cmd.opr = 0
  sub : t.cmd.operands.sub = 0
  reg : t.cmd.operands.reg = 0
  len : t.cmd.operands.len = 0
  fmt : t.cmd.operands.fmt = 0
  alen : t.cmd.operands.abuf.length = 0
  av : t.cmd.operands.av = 0
  aw : t.cmd.operands.aw = 0
  ac : t.cmd.operands.ac = 0
  resStatus : t.res.status = .none
  resTag : t.res.tag = .void
  resLen : t.res.data.length = 0
  failKind : t.res.failKind = .none
  failCode : t.res.failCode = .noFailure
  txLen : t.txLen = 0
  rxLen : t.rxLen = 0
  txBytes : ∀ a, Memory.read t.txBuf a = none
  rxBytes : ∀ a, Memory.read t.rxBuf a = none
  baud : t.cfg.baud = 19200
  debug : t.cfg.debug = false

/-- A width in REV_OK: never 0, always 1, 2 and 4, others as the parameter says (rule R10). -/
def widthOk (p : Params) (n : Nat) : Prop := n ≠ 0 ∧ (n = 1 ∨ n = 2 ∨ n = 4 ∨ n ∈ p.revExtra)

/-- A format code that names a format: not 3, not 7 (rule R111). -/
def fmtNamed (fmt : BitVec 3) : Prop := fmt ≠ 3 ∧ fmt ≠ 7

/-- The numeric formats are the codes 0 and 4 (rule R24). -/
def fmtInt (fmt : BitVec 3) : Prop := fmt = 0 ∨ fmt = 4

/-- The override formats are the codes 4, 5 and 6 (rule R24). -/
def fmtOverride (fmt : BitVec 3) : Prop := fmt = 4 ∨ fmt = 5 ∨ fmt = 6

/-- A READ or WRITE command that passes the acceptance checks (rule R223 step 3). -/
def fieldsAccepted (p : Params) (o : Operands) : Prop := fmtNamed o.fmt ∧ o.len ≤ p.maxLen

/-- The wire-order data of a WRITE: VAL[LEN-1] first for the numeric formats, VAL[0] first otherwise (rule R170). -/
def wireData (o : Operands) (w : Bytes) : Prop :=
  w.length = o.len ∧ ∀ i, i < o.len →
    w[i]? = some (o.val.getD (if o.fmt = 0 ∨ o.fmt = 4 then o.len - 1 - i else i) 0)

/-- The READ request, character by character (rules R93, R169); `c` is the checksum byte. -/
def readFrame (reg : BitVec 16) (c : Byte) : Bytes :=
  [0x3A, 0x37, hexchar (reg.extractLsb' 4 4), hexchar (reg.extractLsb' 0 4), hexchar (reg.extractLsb' 12 4),
    hexchar (reg.extractLsb' 8 4), 0x30, 0x30, hexchar (c.extractLsb' 4 4), hexchar (c.extractLsb' 0 4), 0x0A]

/-- What every frame with fields looks like, request or reply (rules R94, R95): marker, command character, the register
low byte first, a zero flags byte, the data in wire order, the checksum, the terminator. -/
def dataFrame (cmdChar : Byte) (reg : BitVec 16) (w : Bytes) (c : Byte) : Bytes :=
  [0x3A, cmdChar] ++ hexenc ([reg.extractLsb' 0 8, reg.extractLsb' 8 8, 0x00] ++ w ++ [c]) ++ [0x0A]

/-- What the checksum of such a frame covers (rule R101). -/
def dataPayload (cmd : Byte) (reg : BitVec 16) (w : Bytes) : Bytes :=
  [cmd, reg.extractLsb' 0 8, reg.extractLsb' 8 8, 0x00] ++ w

/-- What a reply's wire-order data delivers, by the format code (rules R199 to R202). -/
def deliveredBy (fmt : BitVec 3) (len : Nat) (d : Bytes) (tag : ResTag) (data : Bytes) : Prop :=
  ((fmt = 0 ∨ fmt = 4) → tag = .int ∧ data = d.reverse) ∧
  ((fmt = 1 ∨ fmt = 5) → tag = .bytes ∧ data = d) ∧
  (fmt = 2 → tag = .str ∧ data = d) ∧
  (fmt = 6 → tag = .str ∧ data = d.take (len - 2))

/-- The first of the parser's steps 0 to 4 and of its hex decodings that `buf` fails, in the order of rule R206; `none`
where all pass. -/
def firstReplyFault (cmdChar : Byte) (o : Operands) (buf : Bytes) : Option FailCode :=
  if buf.length < 11 + 2 * o.len then some .tooShort
  else if buf[10 + 2 * o.len]? ≠ some 0x0A then some .terminator
  else if buf.take 2 ≠ [0x3A, cmdChar] then some .echoCommand
  else if ((buf.drop 2).take 4).any (fun c => (hexval c).isNone) then some .hexDigit
  else if (buf.drop 2).take 4 ≠ hexenc [o.reg.extractLsb' 0 8, o.reg.extractLsb' 8 8] then some .echoRegister
  else if ((buf.drop 6).take 2).any (fun c => (hexval c).isNone) then some .hexDigit
  else if (buf.drop 6).take 2 ≠ [0x30, 0x30] then some .echoFlags
  else if ((buf.drop 8).take (2 * o.len + 2)).any (fun c => (hexval c).isNone) then some .hexDigit
  else none

/-- A capture is noise (rule R238): a marker sequence, a marker byte or a tab somewhere in it, or, for READ and
WRITE, more bytes than the expected reply has. -/
def noisy (p : Params) (k : Kind) (len : Nat) (buf : Bytes) : Prop :=
  (∃ i, (buf.drop i).take 2 = [p.noiseSeq.1, p.noiseSeq.2]) ∨ p.noiseByte ∈ buf ∨ (0x09 : Byte) ∈ buf ∨
    ((k = .read ∨ k = .write) ∧ 11 + 2 * len < buf.length)

/-- The bounds of one transaction's event trace (rules R247, R248), and its derived counts (rule R45). -/
structure TraceBounds (p : Params) (f : Bytes) (t : State) : Prop where
  sent : sends f t.trace = t.att
  sentBound : t.att ≤ 5
  cancelled : cancels p t.trace = t.ccnt
  cancelledBound : t.ccnt ≤ 5
  polls : countRequests isAvail t.trace ≤ 5 * p.nPoll + 5 * p.nDrain
  reads : countRequests isRead t.trace ≤ 5 * p.nDrain + 5
  flushes : countRequests isFlush t.trace ≤ 5
  opens : countRequests isOpen t.trace = 1
  closes : countRequests isClose t.trace = 1
  lastRequest : ∃ a, t.trace.getLast? = some (.request .chClose a)

/-- What the environment answers to the requests of a drain that reads these bytes one at a time (rule R235): each
time, that something is available, and the byte. -/
def replyDraws (bytes : Bytes) : List Draw :=
  bytes.flatMap fun b => [{ error := false, count := 1, byte := none }, { error := false, count := 0, byte := some b }]

/-- An answer `ok`, or a count, with no byte. -/
def answerCount (n : Nat) : Draw := { error := false, count := n, byte := none }

/-- What the environment answers in one attempt whose frame of `n` bytes is written and to which nothing ever
arrives: the write, N_POLL polls, the cancel write, the discarded read, the flush (rules R226, R232, R240). -/
def silentAttempt (p : Params) (n : Nat) : List Draw :=
  [answerCount n] ++ List.replicate p.nPoll (answerCount 0) ++ [answerCount 2, answerCount 0, answerCount 0]

end Sys2Proof.Machine
end

