-- ==== Sys2Proof/Certificates/Slice0/Obligations.lean ====
section
/-! DEFINITION. The statements for the provers, from the numbered rules of spec/. Each docstring names the rule it
rests on; where a clause rests on a choice of the model it names the assumption. -/

open Sys2Proof Sys2Proof.Machine

/-! ## The command port, the decoder -/

/-- A step with a command presented runs the operation the command decodes to, at the state without that input
(rules R47, R110), where the block is configured, or the operation is no transaction, or it makes no channel request
there (the other presentations are refused, rule R326: OnlyTheseInputsAreRefused; assumption 7). With no host action,
or with a host that waits, it is the engine's step, and in Idle the engine waits (rules R30, R222; the host's turn is
assumption 2). -/
def Obligations.StepRunsTheDecodedCommand : Prop :=
  (∀ (s : State) (c : Command) (i : Instr) (rest : List HostInput),
    s.hostIn = { act := .command c, reset := none } :: rest → decode s.params c = .ok i →
    (s.configured = true ∨ Kind.ofOpr i.opr = none ∨
      ∀ t, exec i { s with hostIn := rest } = .next t → t.log = s.log) →
    step s = exec i { s with hostIn := rest }) ∧
  (∀ s : State, s.hostIn = [] → step s = engineStep s) ∧
  (∀ (s : State) (rest : List HostInput), s.hostIn = { act := .wait, reset := none } :: rest →
    step s = engineStep { s with hostIn := rest }) ∧
  (∀ s : State, s.st = .idle → engineStep s = .next s)

/-- The sixteen selector codes of rule R110, each read from its word of the opcode table, and the codes of SUB and FMT
(rules R21, R24). That a word of the table stands for a command whose other operands are zero is the model's choice,
assumption 1. -/
def Obligations.SelectorCodesDecode : Prop :=
  (decodeTableWord 8 0 = some (.hexenc Operands.zero) ∧ decodeTableWord 8 1 = some (.hexdec Operands.zero) ∧
    decodeTableWord 8 2 = some (.twosc Operands.zero) ∧ decodeTableWord 8 3 = some (.touns Operands.zero) ∧
    decodeTableWord 8 4 = some (.brev Operands.zero) ∧ decodeTableWord 8 5 = some (.csum Operands.zero) ∧
    decodeTableWord 8 6 = some (.csumchk Operands.zero) ∧ decodeTableWord 8 7 = some (.build Operands.zero) ∧
    decodeTableWord 8 8 = some (.parse Operands.zero) ∧ decodeTableWord 8 9 = some (.ping Operands.zero) ∧
    decodeTableWord 8 10 = some (.restart Operands.zero) ∧ decodeTableWord 8 11 = some (.read Operands.zero) ∧
    decodeTableWord 8 12 = some (.write Operands.zero) ∧ decodeTableWord 8 13 = some (.reserved13 Operands.zero) ∧
    decodeTableWord 8 14 = some (.reserved14 Operands.zero) ∧
    decodeTableWord 8 15 = some (.reserved15 Operands.zero)) ∧
  (∀ sub : BitVec 2, Kind.ofSub sub = (if sub = 0 then .ping else if sub = 1 then .restart
    else if sub = 2 then .read else .write)) ∧
  (∀ fmt : BitVec 3, (Format.ofBits fmt = none ↔ fmt = 3 ∨ fmt = 7) ∧
    (∀ f, Format.ofBits fmt = some f →
      (f.override = true ↔ fmt = 4 ∨ fmt = 5 ∨ fmt = 6) ∧ (f.shape = .int ↔ fmt = 0 ∨ fmt = 4) ∧
      (f.shape = .bytes ↔ fmt = 1 ∨ fmt = 5) ∧ (f.shape = .string ↔ fmt = 2 ∨ fmt = 6)))

/-- Decode and encode agree both ways: a command decodes to exactly the well-formed operation it encodes
(rules R47, R110). -/
def Obligations.DecodeExactlyInvertsEncode : Prop :=
  ∀ (p : Params) (c : Command) (i : Instr), decode p c = .ok i ↔ i.wellFormed p = true ∧ c = encode i

/-- An operation is well formed exactly when each operand fits its latch (rules R25, R26). -/
def Obligations.WellFormedIffOperandsFit : Prop :=
  ∀ (p : Params) (i : Instr), i.wellFormed p = true ↔
    i.operands.val.length ≤ p.maxLen ∧ i.operands.abuf.length ≤ p.abufCap ∧ i.operands.av < 2 ^ p.twMax ∧
      i.operands.aw ≤ p.twMax

/-- Outside Idle every command is rejected: only the acknowledgement changes (rule R47). In Idle the command is
latched and acknowledged, and the operation runs from a state in which the result registers and CSW are cleared: what
they held before has no influence (rules R47, R297). -/
def Obligations.CommandAcceptedOnlyInIdle : Prop :=
  ∀ (i : Instr) (s : State),
    (s.st ≠ .idle → exec i s = .next { s with portAck := .rejected }) ∧
    (s.st = .idle →
      exec i s = exec i { s with cmd := encode i, res := ResultRegs.cleared, csw := false, portAck := .accepted } ∧
      ∀ t, exec i s = .next t → t.cmd = encode i ∧ t.portAck = .accepted)

/-- No operation is refused, in any state: `exec` opens the channel with what CFG_CH_ID and CFG_TIMEOUT hold also where
they were never written, as rule R326 says of the hardware (assumption 7). The only refusals of a step: a command with
an operand that does not fit the port, and a CFG_CH_ID of more than CHID_W bits (rules R26, R39; assumption 16); and a
transaction presented in Idle before both registers were written, which is refused wherever it would open the channel
(rule R326). -/
def Obligations.OnlyTheseInputsAreRefused : Prop :=
  (∀ (i : Instr) (s : State) (r : Refusal), exec i s ≠ .refused r) ∧
  (∀ (s : State) (c : Command) (i : Instr) (k : Kind) (f : Bytes) (rest : List HostInput),
    s.hostIn = { act := .command c, reset := none } :: rest → decode s.params c = .ok i → s.configured = false →
    s.st = .idle → Kind.ofOpr i.opr = some k → acceptFailure s.params k i.operands = none →
    build s.params k i.operands = .ok f → step s = .refused .notConfigured) ∧
  (∀ (s : State) (r : Refusal), step s = .refused r →
    ∃ rest, (∃ c e, s.hostIn = { act := .command c, reset := none } :: rest ∧ decode s.params c = .error e ∧
        r = .commandNotExpressible e) ∨
      (∃ v, s.hostIn = { act := .writeChId v, reset := none } :: rest ∧ 2 ^ s.params.chidW ≤ v ∧
        r = .chIdNotExpressible) ∨
      (∃ c i, s.hostIn = { act := .command c, reset := none } :: rest ∧ decode s.params c = .ok i ∧
        Kind.ofOpr i.opr ≠ none ∧ s.st = .idle ∧ s.configured = false ∧ r = .notConfigured))

/-! ## Reset -/

/-- The reset state holds the values of rule R51's table. -/
def Obligations.ResetStateHasResetValues : Prop := AtResetValues State.reset

/-- RESET at any step, in any state, whatever the host does and after any number `k` of the step's channel events:
every register takes its reset value, the events made before it stay in the trace, no further request is made and
none is made by RESET itself (rules R320 to R323; the moments inside a step are assumption 11). Where the step would
stop, no event is made and the registers are reset; that this holds of an unconfigured transaction too, whatever `k` is,
is the model's choice, assumption 7 (rule R326). -/
def Obligations.ResetAtAnyMoment : Prop :=
  ∀ (s : State) (a : HostAct) (k : Nat) (rest : List HostInput),
    s.hostIn = { act := a, reset := some k } :: rest →
    ∃ t, step s = .next t ∧ AtResetValues t ∧ t.params = s.params ∧ t.hostIn = rest ∧ s.log <+: t.log ∧
      Consumed (requestCount (t.log.drop s.log.length)) s t ∧
      (∀ u, hostStep a { s with hostIn := rest } = .next u →
        t.log <+: u.log ∧ t.log.length = min (s.log.length + k) u.log.length) ∧
      ((∀ u, hostStep a { s with hostIn := rest } ≠ .next u) → t.log = s.log)

/-! ## Invariants -/

/-- The reset state satisfies both invariants. -/
def Obligations.InvariantsHoldAtReset : Prop := Inv State.reset ∧ TraceInv State.reset

/-- Every step keeps the block's invariant: latched operands that fit their latches (R25, R26), result registers that
agree, with a value of at most RES_CAP bytes of the form its tag has (R27 to R29), canonical buffers of which exactly
the indices below the length have a value (R61), the counters' bounds (R157), the channel closed and no frame state in
Idle (R36 to R38), open while busy, and the frame held equal to the one the latched command builds (R78). That CCNT is
below ATT in NoisyRetry rests on assumption 12 (CCNT rises in the step NoisyRetry takes, not on entry); that every
result fits RES_CAP on assumptions 6 (what an open PING_PARSE may answer) and 17 (TW_MAX below 8 x RES_CAP). -/
def Obligations.InvKeptByEveryStep : Prop :=
  ∀ s t : State, Inv s → step s = .next t → Inv t

/-- Every step keeps what the event trace says of the transaction under way (rules R45, R247, R248). That in NoisyRetry
CCNT equals the cancel writes and the flushes made so far is the model's reading, assumption 12: CCNT rises in the step
NoisyRetry takes, not on entry to it (rule R33). -/
def Obligations.TraceInvKeptByEveryStep : Prop :=
  ∀ s t : State, Inv s → TraceInv s → step s = .next t → TraceInv t

/-- No step faults in a state of the invariant, and no operation does. -/
def Obligations.NoFaultUnderInv : Prop :=
  ∀ s : State, Inv s → s.faultFree ∧ ∀ (i : Instr) (r : Fault), exec i s ≠ .fault r

/-- No transaction blocks for ever: from any state of the invariants, with a host that waits, the engine reaches Idle
within a bounded number of steps whatever the channel answers, with a result and with the trace within the bounds of
rules R247 and R248, which the spec marks as its own inferences, "derived: from rules R226, R230, R236, R240". -/
def Obligations.EveryTransactionEnds : Prop :=
  ∀ s : State, Inv s → s.hostIn = [] →
    rank s ≤ transactionBound s.params ∧
    ∃ n t, n ≤ rank s ∧ Host.Core.run Sys2Proof.core n s = .next t ∧ t.st = .idle ∧ t.chOpen = false ∧
      (s.st ≠ .idle → t.res.status ≠ .none ∧
        ∀ f, TraceInv s → s.frame = some f → TraceBounds s.params f t)

/-- The latched command, the configuration and the parameters do not change in an engine step, and the frame stays as
built until the block is Idle again (rules R78, R165). -/
def Obligations.EngineKeepsCommandAndFrame : Prop :=
  ∀ s t : State, engineStep s = .next t → EngineFrame s t ∧ (t.st ≠ .idle → SameTx s t)

/-- While a transaction runs nothing the host does but RESET disturbs it: a step with a command or a configuration
write changes nothing but the acknowledgement (rules R43, R47, R78). -/
def Obligations.HostCannotDisturbTransaction : Prop :=
  ∀ (s t : State) (a : HostAct) (rest : List HostInput), s.st ≠ .idle → a ≠ .wait →
    s.hostIn = { act := a, reset := none } :: rest → step s = .next t →
    t = { s with hostIn := rest, portAck := t.portAck }

/-- The configuration registers are written in Idle and only there (rule R43). -/
def Obligations.ConfigWrittenOnlyInIdle : Prop :=
  ∀ (s : State) (rest : List HostInput),
    (∀ v, v < 2 ^ s.params.chidW → s.hostIn = { act := .writeChId v, reset := none } :: rest →
      step s = .next { s with
        hostIn := rest
        cfg := if s.st = .idle then { s.cfg with chId := v, chIdWritten := true } else s.cfg }) ∧
    (∀ v, s.hostIn = { act := .writeBaud v, reset := none } :: rest →
      step s = .next { s with hostIn := rest, cfg := if s.st = .idle then { s.cfg with baud := v } else s.cfg }) ∧
    (∀ v, s.hostIn = { act := .writeTimeout v, reset := none } :: rest →
      step s = .next { s with
        hostIn := rest
        cfg := if s.st = .idle then { s.cfg with timeout := v, timeoutWritten := true } else s.cfg }) ∧
    (∀ v, s.hostIn = { act := .writeDebug v, reset := none } :: rest →
      step s = .next { s with hostIn := rest, cfg := if s.st = .idle then { s.cfg with debug := v } else s.cfg })

/-! ## The codec operations -/

/-- HEXENC (rule R131). -/
def Obligations.HexencDelivers : Prop :=
  ∀ (s : State) (o : Operands), s.st = .idle →
    ∃ t out, exec (.hexenc o) s = .next t ∧ t.delivers .bytes out ∧ t.csw = false ∧
      UnitFrame { opr := 0, operands := o } s t ∧ out.length = 2 * o.abuf.length ∧
      ∀ (i : Nat) (b : Byte), o.abuf[i]? = some b →
        out[2 * i]? = some (hexchar (b.extractLsb' 4 4)) ∧ out[2 * i + 1]? = some (hexchar (b.extractLsb' 0 4))

/-- HEXDEC (rule R133): HEX_ODD for an odd length, whatever the characters; HEX_CHAR for an even length with a
character that is no hex digit; else one byte for each pair, high nibble first. -/
def Obligations.HexdecDecodesOrFails : Prop :=
  ∀ (s : State) (o : Operands), s.st = .idle →
    (o.abuf.length % 2 = 1 → ∃ t, exec (.hexdec o) s = .next t ∧ t.fails .codecError .hexOdd ∧
      FailFrame { opr := 1, operands := o } s t) ∧
    (o.abuf.length % 2 = 0 → (∃ c ∈ o.abuf, hexval c = none) →
      ∃ t, exec (.hexdec o) s = .next t ∧ t.fails .codecError .hexChar ∧
        FailFrame { opr := 1, operands := o } s t) ∧
    (o.abuf.length % 2 = 0 → (∀ c ∈ o.abuf, hexval c ≠ none) →
      ∃ t out, exec (.hexdec o) s = .next t ∧ t.delivers .bytes out ∧ t.csw = false ∧
        UnitFrame { opr := 1, operands := o } s t ∧ out.length = o.abuf.length / 2 ∧
        ∀ i, i < out.length → ∃ h l x y b, o.abuf[2 * i]? = some h ∧ o.abuf[2 * i + 1]? = some l ∧
          hexval h = some x ∧ hexval l = some y ∧ out[i]? = some b ∧ b.toNat = 16 * x.toNat + y.toNat)

/-- TWOSC (rule R135). In range: `ceil(AW / 8)` bytes whose big-endian signed reading is AV, less `2^AW` where bit
`AW - 1` of it is set. Out of range: OPERAND_RANGE. The function itself, for every natural number and width. -/
def Obligations.TwoscConvertsOrFails : Prop :=
  (∀ v w : Nat, 1 ≤ w → twosc v w = (if v / 2 ^ (w - 1) % 2 = 1 then (v : Int) - 2 ^ w else v)) ∧
  ∀ (s : State) (o : Operands), s.st = .idle →
    (1 ≤ o.aw → o.aw ≤ s.params.twMax → o.av < 2 ^ o.aw →
      ∃ t out, exec (.twosc o) s = .next t ∧ t.delivers .int out ∧ t.csw = false ∧
        UnitFrame { opr := 2, operands := o } s t ∧ out.length = (o.aw + 7) / 8 ∧
        signedBe out = (if 2 ^ (o.aw - 1) ≤ o.av then (o.av : Int) - 2 ^ o.aw else o.av)) ∧
    (o.aw = 0 ∨ s.params.twMax < o.aw ∨ 2 ^ o.aw ≤ o.av →
      ∃ t, exec (.twosc o) s = .next t ∧ t.fails .illegalOperation .operandRange ∧
        FailFrame { opr := 2, operands := o } s t)

/-- TOUNS (rule R137), with `x` the reading of AV as a signed integer of TW_MAX bits. In range: `floor(AW / 8) + 1`
bytes whose big-endian signed reading is `x`, plus `2^AW` where `x` is negative. Out of range: OPERAND_RANGE. The
function itself, for every integer in the range of the width. The spec marks the rule as "derived: from rule R135". -/
def Obligations.TounsConvertsOrFails : Prop :=
  (∀ (x : Int) (w : Nat), 1 ≤ w → -(2 ^ (w - 1) : Int) ≤ x → x < 2 ^ (w - 1) →
    touns x w = (if 0 ≤ x then x else x + 2 ^ w)) ∧
  ∀ (s : State) (o : Operands) (x : Int), s.st = .idle → o.av < 2 ^ s.params.twMax →
    x = (if 2 ^ (s.params.twMax - 1) ≤ o.av then (o.av : Int) - 2 ^ s.params.twMax else o.av) →
    (1 ≤ o.aw → o.aw ≤ s.params.twMax → -(2 ^ (o.aw - 1) : Int) ≤ x → x < 2 ^ (o.aw - 1) →
      ∃ t out, exec (.touns o) s = .next t ∧ t.delivers .int out ∧ t.csw = false ∧
        UnitFrame { opr := 3, operands := o } s t ∧ out.length = o.aw / 8 + 1 ∧
        signedBe out = (if 0 ≤ x then x else x + 2 ^ o.aw)) ∧
    (o.aw = 0 ∨ s.params.twMax < o.aw ∨ x < -(2 ^ (o.aw - 1) : Int) ∨ 2 ^ (o.aw - 1) ≤ x →
      ∃ t, exec (.touns o) s = .next t ∧ t.fails .illegalOperation .operandRange ∧
        FailFrame { opr := 3, operands := o } s t)

/-- BREV (rules R139, R140): the bytes in the opposite order where the length is in REV_OK; REV_WIDTH for every other
length, 0 among them. That the transform is the reversal is the spec's own inference, "derived: from the quoted
definition". -/
def Obligations.BrevReversesOrFails : Prop :=
  ∀ (s : State) (o : Operands), s.st = .idle →
    (widthOk s.params o.abuf.length →
      ∃ t out, exec (.brev o) s = .next t ∧ t.delivers .bytes out ∧ t.csw = false ∧
        UnitFrame { opr := 4, operands := o } s t ∧ out.length = o.abuf.length ∧
        ∀ i, i < o.abuf.length → out[i]? = o.abuf[o.abuf.length - 1 - i]?) ∧
    (¬ widthOk s.params o.abuf.length →
      ∃ t, exec (.brev o) s = .next t ∧ t.fails .codecError .revWidth ∧
        FailFrame { opr := 4, operands := o } s t)

/-- Laws of `hexenc`: the length, concatenation, the alphabet, injectivity; its two round trips with `hexdec`. The spec
marks them as its own inferences: "derived: from rule R131" (rule R132) and "the second sentence from rules R131 and
R133" (rule R134). -/
def Obligations.HexencLawsAndRoundTrips : Prop :=
  (∀ b, (hexenc b).length = 2 * b.length) ∧ (∀ b c, hexenc (b ++ c) = hexenc b ++ hexenc c) ∧
  (∀ b, ∀ x ∈ hexenc b, (0x30 ≤ x.toNat ∧ x.toNat ≤ 0x39) ∨ (0x41 ≤ x.toNat ∧ x.toNat ≤ 0x46)) ∧
  (∀ b c, hexenc b = hexenc c → b = c) ∧
  (∀ b, hexdec (hexenc b) = .ok b) ∧ (∀ a b, hexdec a = .ok b → hexenc b = a)

/-- `twosc` keeps the value modulo `2^w`, and `twosc` and `touns` undo each other on their ranges. The spec marks both as
its own inferences: "derived: from rule R135" (rule R136), "derived: from rules R135 and R137" (rule R138). -/
def Obligations.SignConversionLaws : Prop :=
  (∀ v w : Nat, 1 ≤ w → (twosc v w - (v : Int)) % 2 ^ w = 0) ∧
  (∀ v w : Nat, 1 ≤ w → v < 2 ^ w → touns (twosc v w) w = v) ∧
  (∀ (x : Int) (w : Nat), 1 ≤ w → -(2 ^ (w - 1) : Int) ≤ x → x < 2 ^ (w - 1) → twosc (touns x w).toNat w = x)

/-- Byte reversal is an involution on the widths of REV_OK and keeps the length (rule R141). -/
def Obligations.BrevIsAnInvolution : Prop :=
  ∀ (p : Params) (b : Bytes), widthOk p b.length →
    ∃ c, brev p b = some c ∧ c.length = b.length ∧ brev p c = some b

/-! ## The checksum operations -/

/-- CSUM (rule R152): `(85 - sum) mod 256`, whether the bytes are summed as unsigned or as signed. That the signed sum
gives the same is the spec's own inference, "derived: from rule R150 and 40_codec_ops.md rule R136". -/
def Obligations.CsumDelivers : Prop :=
  ∀ (s : State) (o : Operands), s.st = .idle →
    ∃ t c, exec (.csum o) s = .next t ∧ t.delivers .bytes [c] ∧ t.csw = false ∧
      UnitFrame { opr := 5, operands := o } s t ∧
      (c.toNat : Int) = (85 - ((o.abuf.map BitVec.toNat).sum : Int)) % 256 ∧
      (c.toNat : Int) = (85 - (o.abuf.map fun b => twosc b.toNat 8).sum) % 256

/-- CSUMCHK (rule R155): an OK result, 1 where the checksum of ABUF is AC and 0 where it is not. -/
def Obligations.CsumchkDelivers : Prop :=
  ∀ (s : State) (o : Operands), s.st = .idle →
    ∃ t, exec (.csumchk o) s = .next t ∧
      t.delivers .bool [if ((o.abuf.map BitVec.toNat).sum + o.ac.toNat) % 256 = 85 then 1 else 0] ∧ t.csw = false ∧
      UnitFrame { opr := 6, operands := o } s t

/-- The five laws of `checksum`, byte reversal among the permutations of the first, and its agreement with `csumchk`.
The spec marks them as its own inferences: "derived: from rule R152" (rule R154), "derived: from rules R152, R154,
R155" (rule R156). -/
def Obligations.ChecksumLaws : Prop :=
  (∀ P Q : Bytes, P.Perm Q → checksum Q = checksum P) ∧
  (∀ (p : Params) (P Q : Bytes), brev p P = some Q → checksum Q = checksum P) ∧
  (∀ P Q : Bytes, ((checksum (P ++ Q)).toNat : Int) =
    ((checksum P).toNat - ((Q.map BitVec.toNat).sum : Int)) % 256) ∧
  (∀ P : Bytes, checksum (P ++ [checksum P]) = 0) ∧
  (∀ (P : Bytes) (c : Byte), c = checksum P ↔ ((P.map BitVec.toNat).sum + c.toNat) % 256 = 85) ∧
  (∀ (P : Bytes) (i : Nat) (b : Byte), i < P.length → P[i]? ≠ some b → checksum (P.set i b) ≠ checksum P) ∧
  (∀ P : Bytes, csumchk P (checksum P) = true)

/-! ## The frame builder -/

/-- BUILD of a PING or a RESTART: three bytes, whatever the other operands hold (rules R166, R168, R174). CMD_PING is
none of `6`, `7` and `8` (rule R10). -/
def Obligations.BuildShortFrames : Prop :=
  ∀ (s : State) (o : Operands), s.st = .idle →
    (o.sub = 0 → ∃ t c, exec (.build o) s = .next t ∧ t.delivers .bytes [0x3A, c, 0x0A] ∧ c = cmdPing s.params ∧
      c ≠ 0x36 ∧ c ≠ 0x37 ∧ c ≠ 0x38 ∧ t.csw = false ∧ UnitFrame { opr := 7, operands := o } s t) ∧
    (o.sub = 1 → ∃ t, exec (.build o) s = .next t ∧ t.delivers .bytes [0x3A, 0x36, 0x0A] ∧ t.csw = false ∧
      UnitFrame { opr := 7, operands := o } s t)

/-- BUILD of a READ: eleven bytes (rules R167, R169, R174). -/
def Obligations.BuildReadFrame : Prop :=
  ∀ (s : State) (o : Operands), s.st = .idle → o.sub = 2 → fieldsAccepted s.params o →
    ∃ t c, exec (.build o) s = .next t ∧ t.delivers .bytes (readFrame o.reg c) ∧ t.csw = false ∧
      UnitFrame { opr := 7, operands := o } s t ∧ sumsTo85 (dataPayload 0x07 o.reg []) c

/-- BUILD of a WRITE: the value in wire order between the flags and the checksum (rules R170, R174). That the bytes of
VAL a command leaves out are zero is the model's choice, assumption 8. -/
def Obligations.BuildWriteFrame : Prop :=
  ∀ (s : State) (o : Operands), s.st = .idle → o.sub = 3 → fieldsAccepted s.params o →
    (fmtInt o.fmt → widthOk s.params o.len) →
    ∃ t w c, exec (.build o) s = .next t ∧ t.delivers .bytes (dataFrame 0x38 o.reg w c) ∧ t.csw = false ∧
      UnitFrame { opr := 7, operands := o } s t ∧ wireData o w ∧ sumsTo85 (dataPayload 0x08 o.reg w) c

/-- The failures of BUILD, in their order (rules R111, R113, R171, R293). -/
def Obligations.BuildFails : Prop :=
  ∀ (s : State) (o : Operands), s.st = .idle → (o.sub = 2 ∨ o.sub = 3) →
    (¬ fmtNamed o.fmt → ∃ t, exec (.build o) s = .next t ∧ t.fails .unsupportedFormat .format ∧
      FailFrame { opr := 7, operands := o } s t) ∧
    (fmtNamed o.fmt → s.params.maxLen < o.len →
      ∃ t, exec (.build o) s = .next t ∧ t.fails .illegalOperation .operandRange ∧
        FailFrame { opr := 7, operands := o } s t) ∧
    (o.sub = 3 → fieldsAccepted s.params o → fmtInt o.fmt → ¬ widthOk s.params o.len →
      ∃ t, exec (.build o) s = .next t ∧ t.fails .unsupportedFormat .width ∧
        FailFrame { opr := 7, operands := o } s t)

/-- Every frame the builder returns, of every kind: its ends, its command character, hex characters between, its length,
no tab, no carriage return and no lower-case letter, and for READ and WRITE the frame invariant (rules R101, R172); it is
one ASCII line (rule R91). The spec marks rule R172 as its own inference: "derived: from rules R166 to R170 and
40_codec_ops.md rule R132". That for PING rules R91 and R172 bound CMD_PING is DEDUCED, assumption 5. -/
def Obligations.BuiltFrameProperties : Prop :=
  ∀ (p : Params) (k : Kind) (o : Operands) (f : Bytes), build p k o = .ok f →
    f.head? = some 0x3A ∧ f.getLast? = some 0x0A ∧
    f[1]? = some (match k with | .ping => cmdPing p | .restart => 0x36 | .read => 0x37 | .write => 0x38) ∧
    (∀ x ∈ (f.drop 2).dropLast, (hexval x).isSome = true) ∧
    f.length = (match k with | .read => 11 | .write => 11 + 2 * o.len | _ => 3) ∧
    (0x09 : Byte) ∉ f ∧ (0x0D : Byte) ∉ f ∧ (∀ x ∈ f, ¬ (0x61 ≤ x.toNat ∧ x.toNat ≤ 0x7A)) ∧
    (∀ x ∈ f, x.toNat < 0x80) ∧ (0x0A : Byte) ∉ f.dropLast ∧
    (k = .read ∨ k = .write → ∃ fields c, hexdec ((f.drop 2).dropLast) = .ok (fields ++ [c]) ∧
      sumsTo85 ((match k with | .read => 0x07 | _ => 0x08) :: fields) c)

/-! ## The frame parser -/

/-- PARSE accepts the reply to a READ or a WRITE and decodes it by the format: for every register, length and data, and
whatever follows the expected length. A wrong checksum is tolerated by an override format and noted in CSW
(rules R196 to R202, R204, R206). That every such frame is accepted, and what an empty data field gives, the spec marks
as its own inferences: "derived: from rule R206 and 41_checksum.md rule R154" (rule R207), "derived: from rules R186,
R196 and 40_codec_ops.md rule R140" (rule R203). -/
def Obligations.ParseDelivers : Prop :=
  ∀ (s : State) (o : Operands) (d rest : Bytes) (c cmdChar cmd : Byte), s.st = .idle →
    ((o.sub = 2 ∧ cmdChar = 0x37 ∧ cmd = 0x07) ∨ (o.sub = 3 ∧ cmdChar = 0x38 ∧ cmd = 0x08)) →
    fieldsAccepted s.params o → d.length = o.len → (fmtInt o.fmt → widthOk s.params o.len) →
    o.abuf = dataFrame cmdChar o.reg d c ++ rest →
    (sumsTo85 (dataPayload cmd o.reg d) c ∨ fmtOverride o.fmt) →
    ∃ t tag data, exec (.parse o) s = .next t ∧ t.delivers tag data ∧ deliveredBy o.fmt o.len d tag data ∧
      (t.csw = true ↔ ¬ sumsTo85 (dataPayload cmd o.reg d) c) ∧ UnitFrame { opr := 8, operands := o } s t

/-- PARSE of such a reply where the flip has no such width, or where the checksum is wrong and the format is no
override (rules R196, R198). -/
def Obligations.ParseChecksAndWidthFail : Prop :=
  ∀ (s : State) (o : Operands) (d rest : Bytes) (c cmdChar cmd : Byte), s.st = .idle →
    ((o.sub = 2 ∧ cmdChar = 0x37 ∧ cmd = 0x07) ∨ (o.sub = 3 ∧ cmdChar = 0x38 ∧ cmd = 0x08)) →
    fieldsAccepted s.params o → d.length = o.len → o.abuf = dataFrame cmdChar o.reg d c ++ rest →
    (fmtInt o.fmt → ¬ widthOk s.params o.len →
      ∃ t, exec (.parse o) s = .next t ∧ t.fails .unsupportedFormat .width ∧
        FailFrame { opr := 8, operands := o } s t) ∧
    ((fmtInt o.fmt → widthOk s.params o.len) → ¬ fmtOverride o.fmt → ¬ sumsTo85 (dataPayload cmd o.reg d) c →
      ∃ t, exec (.parse o) s = .next t ∧ t.fails .checksumMismatch .checksum ∧
        FailFrame { opr := 8, operands := o } s t)

/-- Nothing else is delivered: an OK result of PARSE of a READ or WRITE reply comes from a buffer that begins with a
frame of that layout echoing the register, and with a right checksum unless CSW is set (rule R186, and rule R207, which
the spec marks as its own inference: "derived: from rule R206 and 41_checksum.md rule R154"). -/
def Obligations.ParseDeliversOnlyValidReplies : Prop :=
  ∀ (s t : State) (o : Operands), s.st = .idle → (o.sub = 2 ∨ o.sub = 3) → exec (.parse o) s = .next t →
    t.res.status = .ok →
    ∃ d rest c cmdChar cmd,
      ((o.sub = 2 ∧ cmdChar = 0x37 ∧ cmd = 0x07) ∨ (o.sub = 3 ∧ cmdChar = 0x38 ∧ cmd = 0x08)) ∧
      d.length = o.len ∧ o.abuf = dataFrame cmdChar o.reg d c ++ rest ∧
      (t.csw = true ↔ ¬ sumsTo85 (dataPayload cmd o.reg d) c) ∧ (t.csw = true → fmtOverride o.fmt) ∧
      deliveredBy o.fmt o.len d t.res.tag t.res.data

/-- The parser's checks before the checksum, in their order: the first that fails is the failure reported
(rules R187 to R194, R206, R293). -/
def Obligations.ParseReportsTheFirstFault : Prop :=
  ∀ (s : State) (o : Operands) (c : FailCode), s.st = .idle → fieldsAccepted s.params o →
    ((o.sub = 2 ∧ firstReplyFault 0x37 o o.abuf = some c) ∨ (o.sub = 3 ∧ firstReplyFault 0x38 o o.abuf = some c)) →
    ∃ t, exec (.parse o) s = .next t ∧ FailFrame { opr := 8, operands := o } s t ∧
      (((c = .tooShort ∨ c = .terminator ∨ c = .hexDigit) ∧ t.fails .malformedReply c) ∨
        ((c = .echoCommand ∨ c = .echoRegister ∨ c = .echoFlags) ∧ t.fails .echoMismatch c))

/-- PARSE of a PING reply, whatever FMT and LEN hold: the default PING_PARSE, or, where the block was built with
another, what that function answers (rule R205). That it is an opaque function of the buffer, that it may fail with
every code but 0, also with those that rules R282, R289 and R290 keep to other operations, and that what it answers
beside an OK result of rule R28 and such a failure is TOO_SHORT, are the model's choices, assumption 6. -/
def Obligations.ParsePingReply : Prop :=
  ∀ (s : State) (o : Operands), s.st = .idle → o.sub = 0 →
    (s.params.pingRule = .default → o.abuf = [] → ∃ t, exec (.parse o) s = .next t ∧
      t.fails .malformedReply .tooShort ∧ FailFrame { opr := 8, operands := o } s t) ∧
    (∀ line b, s.params.pingRule = .default → o.abuf = line ++ [b] → b ≠ 0x0A → ∃ t, exec (.parse o) s = .next t ∧
      t.fails .malformedReply .terminator ∧ FailFrame { opr := 8, operands := o } s t) ∧
    (∀ line, s.params.pingRule = .default → o.abuf = line ++ [0x0A] → ∃ t, exec (.parse o) s = .next t ∧
      t.delivers .bytes line ∧ t.csw = false ∧ UnitFrame { opr := 8, operands := o } s t) ∧
    (∀ v, s.params.pingRule = .unknown → Config.pingParse o.abuf = .ok v → DeliverableAs s.params v.tag v.data →
      ∃ t, exec (.parse o) s = .next t ∧ t.delivers v.tag v.data ∧ t.csw = false ∧
        UnitFrame { opr := 8, operands := o } s t) ∧
    (∀ v, s.params.pingRule = .unknown → Config.pingParse o.abuf = .ok v → ¬ DeliverableAs s.params v.tag v.data →
      ∃ t, exec (.parse o) s = .next t ∧ t.fails .malformedReply .tooShort ∧
        FailFrame { opr := 8, operands := o } s t) ∧
    (∀ c, s.params.pingRule = .unknown → Config.pingParse o.abuf = .fail c → ∃ t e, exec (.parse o) s = .next t ∧
      e = (if c = .noFailure then .tooShort else c) ∧ t.fails (failKindOf e) e ∧
      FailFrame { opr := 8, operands := o } s t)

/-- PARSE refuses a RESTART, and a READ or WRITE with a reserved format or a length above MAX_LEN, before it looks at
the buffer (rules R111, R113, R206). -/
def Obligations.ParseAcceptanceFails : Prop :=
  ∀ (s : State) (o : Operands), s.st = .idle →
    (o.sub = 1 → ∃ t, exec (.parse o) s = .next t ∧ t.fails .illegalOperation .operandRange ∧
      FailFrame { opr := 8, operands := o } s t) ∧
    (o.sub = 2 ∨ o.sub = 3 → ¬ fmtNamed o.fmt → ∃ t, exec (.parse o) s = .next t ∧
      t.fails .unsupportedFormat .format ∧ FailFrame { opr := 8, operands := o } s t) ∧
    (o.sub = 2 ∨ o.sub = 3 → fmtNamed o.fmt → s.params.maxLen < o.len → ∃ t, exec (.parse o) s = .next t ∧
      t.fails .illegalOperation .operandRange ∧ FailFrame { opr := 8, operands := o } s t)

/-- The selectors 13, 14 and 15 deliver ILLEGAL_OP; in a state of the invariant the buffers too are as they were
(rule R112). -/
def Obligations.ReservedSelectorsFail : Prop :=
  ∀ (s : State) (o : Operands), s.st = .idle →
    (∃ t, exec (.reserved13 o) s = .next t ∧ t.fails .illegalOperation .illegalOp ∧
      FailFrame { opr := 13, operands := o } s t ∧ (Inv s → SameTx s t ∧ SameRx s t)) ∧
    (∃ t, exec (.reserved14 o) s = .next t ∧ t.fails .illegalOperation .illegalOp ∧
      FailFrame { opr := 14, operands := o } s t ∧ (Inv s → SameTx s t ∧ SameRx s t)) ∧
    (∃ t, exec (.reserved15 o) s = .next t ∧ t.fails .illegalOperation .illegalOp ∧
      FailFrame { opr := 15, operands := o } s t ∧ (Inv s → SameTx s t ∧ SameRx s t))

/-! ## The acceptance of a transaction -/

/-- PING and RESTART start in a configured block (rule R326) where the channel opens: the frame of three bytes is held,
the trace is the ChOpen with the configuration, the first attempt is under way; FMT and LEN play no part (rules R166,
R168, R223 to R225, R250, R251). -/
def Obligations.PingAndRestartStart : Prop :=
  ∀ (s : State) (o : Operands), s.st = .idle → s.configured = true → (s.drawAt 0).error = false →
    (∃ t, exec (.ping o) s = .next t ∧
      Started { opr := 9, operands := o } s t [0x3A, cmdPing s.params, 0x0A]) ∧
    (∃ t, exec (.restart o) s = .next t ∧ Started { opr := 10, operands := o } s t [0x3A, 0x36, 0x0A])

/-- READ starts in a configured block (rule R326) with the READREQ frame held (rules R169, R223 to R225, R252). -/
def Obligations.ReadStarts : Prop :=
  ∀ (s : State) (o : Operands), s.st = .idle → s.configured = true → fieldsAccepted s.params o → (s.drawAt 0).error = false →
    ∃ t c, exec (.read o) s = .next t ∧ Started { opr := 11, operands := o } s t (readFrame o.reg c) ∧
      sumsTo85 (dataPayload 0x07 o.reg []) c

/-- WRITE starts in a configured block (rule R326) with the WRITEREQ frame held (rules R170, R223 to R225, R253). That
the bytes of VAL a command leaves out are zero is the model's choice, assumption 8. -/
def Obligations.WriteStarts : Prop :=
  ∀ (s : State) (o : Operands), s.st = .idle → s.configured = true → fieldsAccepted s.params o →
    (fmtInt o.fmt → widthOk s.params o.len) → (s.drawAt 0).error = false →
    ∃ t w c, exec (.write o) s = .next t ∧ Started { opr := 12, operands := o } s t (dataFrame 0x38 o.reg w c) ∧
      wireData o w ∧ sumsTo85 (dataPayload 0x08 o.reg w) c

/-- READ and WRITE refused at acceptance: FORMAT, then OPERAND_RANGE, then the builder's WIDTH; no channel request is
made and ATT is 0 (rules R111, R113, R171, R223). -/
def Obligations.TransactionRefusedAtAcceptance : Prop :=
  ∀ (s : State) (o : Operands) (i : Instr), s.st = .idle → (i = .read o ∨ i = .write o) →
    (¬ fmtNamed o.fmt → ∃ t, exec i s = .next t ∧ t.fails .unsupportedFormat .format ∧
      RefusedFrame (encode i) s t) ∧
    (fmtNamed o.fmt → s.params.maxLen < o.len → ∃ t, exec i s = .next t ∧
      t.fails .illegalOperation .operandRange ∧ RefusedFrame (encode i) s t) ∧
    (i = .write o → fieldsAccepted s.params o → fmtInt o.fmt → ¬ widthOk s.params o.len →
      ∃ t, exec i s = .next t ∧ t.fails .unsupportedFormat .width ∧ RefusedFrame (encode i) s t)

/-- ChOpen answering `error`, in a configured block (rule R326): the trace is the ChOpen and one ChClose whatever its
answer, nothing was sent, ATT is 0, the failure is CH_OPEN (rule R302). -/
def Obligations.ChOpenErrorEndsTransaction : Prop :=
  ∀ (s : State) (o : Operands) (i : Instr), s.st = .idle → s.configured = true →
    (i = .ping o ∨ i = .restart o ∨ (i = .read o ∧ fieldsAccepted s.params o) ∨
      (i = .write o ∧ fieldsAccepted s.params o ∧ (fmtInt o.fmt → widthOk s.params o.len))) →
    (s.drawAt 0).error = true →
    ∃ t, exec i s = .next t ∧ t.fails .transportUnreachable .chOpen ∧ BackToIdle t ∧ t.cmd = encode i ∧
      t.portAck = .accepted ∧ t.csw = false ∧ CountersAre t 0 0 0 0 ∧
      t.trace = [.request (.chOpen s.cfg.chId s.cfg.baud s.cfg.timeout) .error,
        .request .chClose (if (s.drawAt 1).error then .error else .ok)] ∧
      t.log = s.log ++ t.trace ∧ Consumed 2 s t ∧ t.cfg = s.cfg ∧ t.params = s.params ∧ t.hostIn = s.hostIn

/-! ## The engine -/

/-- Sending a frame that the channel takes whole, for PING, READ and WRITE: one ChWrite of the whole frame, then
AwaitingData (rules R226, R228). -/
def Obligations.SendingWritesTheWholeFrame : Prop :=
  ∀ (s : State) (k : Kind) (f : Bytes), s.st = .sending → Kind.ofOpr s.cmd.opr = some k → k ≠ .restart →
    s.frame = some f → (s.drawAt 0).error = false → (s.drawAt 0).count = s.txLen →
    ∃ t, engineStep s = .next t ∧ t.st = .awaitingData ∧
      t.log = s.log ++ [.request (.chWrite f) (.count s.txLen)] ∧ Consumed 1 s t ∧
      CountersAre t s.att s.ccnt s.pcnt s.dcnt ∧ EngineFrame s t ∧ SameTx s t ∧ SameRx s t ∧ SameResult s t

/-- A write that answers any other count ends the attempt: a new one with the same frame and an empty capture, or
Exhausted after the fifth; nothing else is requested (rules R225, R227). -/
def Obligations.ShortWriteEndsTheAttempt : Prop :=
  ∀ (s : State) (k : Kind) (f : Bytes) (n : Nat), s.st = .sending → Kind.ofOpr s.cmd.opr = some k →
    s.frame = some f → (s.drawAt 0).error = false → (s.drawAt 0).count = n → n ≠ s.txLen →
    ∃ t, engineStep s = .next t ∧ t.log = s.log ++ [.request (.chWrite f) (.count n)] ∧ Consumed 1 s t ∧
      EngineFrame s t ∧ SameTx s t ∧ SameResult s t ∧
      (s.att < 5 → t.st = .sending ∧ CountersAre t (s.att + 1) s.ccnt 0 0 ∧ t.rxLen = 0 ∧
        ∀ a, Memory.read t.rxBuf a = none) ∧
      (5 ≤ s.att → t.st = .exhausted ∧ CountersAre t s.att s.ccnt s.pcnt s.dcnt ∧ SameRx s t)

/-- RESTART completes with the write: ChClose, then OK with no value, or CH_CLOSE where the close answers `error`; no
reply is read (rules R243, R303). -/
def Obligations.RestartCompletesWithTheWrite : Prop :=
  ∀ (s : State) (f : Bytes), s.st = .sending → s.cmd.opr = 10 → s.frame = some f →
    (s.drawAt 0).error = false → (s.drawAt 0).count = s.txLen →
    ∃ t, engineStep s = .next t ∧ BackToIdle t ∧ Consumed 2 s t ∧ EngineFrame s t ∧ t.csw = s.csw ∧
      CountersAre t s.att s.ccnt s.pcnt s.dcnt ∧
      ((s.drawAt 1).error = false → t.delivers .void [] ∧
        t.log = s.log ++ [.request (.chWrite f) (.count s.txLen), .request .chClose .ok]) ∧
      ((s.drawAt 1).error = true → t.fails .transportUnreachable .chClose ∧
        t.log = s.log ++ [.request (.chWrite f) (.count s.txLen), .request .chClose .error])

/-- One poll of AwaitingData: bytes available lead to Draining; none lead to another poll after T_POLL, or, on poll
number N_POLL, to Classifying (rules R230 to R232). -/
def Obligations.AwaitingDataPolls : Prop :=
  ∀ (s : State) (k : Kind) (n : Nat), s.st = .awaitingData → Kind.ofOpr s.cmd.opr = some k →
    (s.drawAt 0).error = false → (s.drawAt 0).count = n →
    ∃ t, engineStep s = .next t ∧ Consumed 1 s t ∧ EngineFrame s t ∧ SameTx s t ∧ SameRx s t ∧ SameResult s t ∧
      (0 < n → t.st = .draining ∧ t.log = s.log ++ [.request .chAvail (.count n)] ∧
        CountersAre t s.att s.ccnt s.pcnt s.dcnt) ∧
      (n = 0 → s.pcnt + 1 < s.params.nPoll → t.st = .awaitingData ∧
        t.log = s.log ++ [.request .chAvail (.count 0), .delay s.params.tPoll] ∧
        CountersAre t s.att s.ccnt (s.pcnt + 1) s.dcnt) ∧
      (n = 0 → s.params.nPoll ≤ s.pcnt + 1 → t.st = .classifying ∧
        t.log = s.log ++ [.request .chAvail (.count 0)] ∧ CountersAre t s.att s.ccnt (s.pcnt + 1) s.dcnt ∧
        (Inv s → t.rxLen = 0))

/-- One drain iteration that reads a byte appends it to the capture and nothing else (rules R61, R235). -/
def Obligations.DrainingAppendsOneByte : Prop :=
  ∀ (s : State) (k : Kind) (b : Byte), s.st = .draining → Kind.ofOpr s.cmd.opr = some k →
    s.dcnt < s.params.nDrain → s.rxLen < s.params.nDrain →
    (s.drawAt 0).error = false → 0 < (s.drawAt 0).count → (s.drawAt 1).error = false →
    (s.drawAt 1).byte = some b →
    ∃ t, engineStep s = .next t ∧ t.st = .draining ∧ t.rxLen = s.rxLen + 1 ∧
      Memory.read t.rxBuf s.rxLen = some b ∧ (∀ a, a ≠ s.rxLen → Memory.read t.rxBuf a = Memory.read s.rxBuf a) ∧
      t.log = s.log ++ [.request .chAvail (.count (s.drawAt 0).count), .request .chReadByte (.byte b),
        .delay s.params.tPace] ∧
      CountersAre t s.att s.ccnt s.pcnt (s.dcnt + 1) ∧ Consumed 2 s t ∧ EngineFrame s t ∧ SameTx s t ∧
      SameResult s t

/-- The drain ends on the first of: N_DRAIN iterations made, nothing available, no byte read; the capture stays as it is
(rules R236, R237). -/
def Obligations.DrainingEnds : Prop :=
  ∀ (s : State) (k : Kind), s.st = .draining → Kind.ofOpr s.cmd.opr = some k →
    (s.params.nDrain ≤ s.dcnt ∨
      (s.dcnt < s.params.nDrain ∧ (s.drawAt 0).error = false ∧ (s.drawAt 0).count = 0) ∨
      (s.dcnt < s.params.nDrain ∧ (s.drawAt 0).error = false ∧ 0 < (s.drawAt 0).count ∧
        (s.drawAt 1).error = false ∧ (s.drawAt 1).byte = none)) →
    ∃ t, engineStep s = .next t ∧ t.st = .classifying ∧ CountersAre t s.att s.ccnt s.pcnt s.dcnt ∧
      EngineFrame s t ∧ SameTx s t ∧ SameRx s t ∧ SameResult s t ∧
      (s.params.nDrain ≤ s.dcnt → t.log = s.log ∧ Consumed 0 s t) ∧
      (s.dcnt < s.params.nDrain → (s.drawAt 0).count = 0 →
        t.log = s.log ++ [.request .chAvail (.count 0)] ∧ Consumed 1 s t) ∧
      (s.dcnt < s.params.nDrain → 0 < (s.drawAt 0).count →
        t.log = s.log ++ [.request .chAvail (.count (s.drawAt 0).count), .request .chReadByte .nothing] ∧
        Consumed 2 s t)

/-- Classifying accepts a capture that is neither empty nor noise, and makes no channel request (rules R238, R239). That
CCNT stays as it is on entry to NoisyRetry and rises in the step taken there is the model's reading, assumption 12
(rules R33, R240). -/
def Obligations.ClassifyingVerdict : Prop :=
  ∀ (s : State) (k : Kind) (buf : Bytes), s.st = .classifying → Kind.ofOpr s.cmd.opr = some k →
    s.capture = some buf →
    ∃ t, engineStep s = .next t ∧
      (buf ≠ [] ∧ ¬ noisy s.params k s.cmd.operands.len buf → t = { s with st := .accepted }) ∧
      (buf = [] ∨ noisy s.params k s.cmd.operands.len buf → t = { s with st := .noisyRetry })

/-- The recovery sequence: cancel write, one read discarded, pause, flush, pause, in that order, with the count of the
cancel write not looked at and the capture not added to; then the next attempt, or Exhausted after the fifth
(rules R33, R240, R242). That CCNT rises in this step is assumption 12. -/
def Obligations.RecoverySequence : Prop :=
  ∀ (s : State) (k : Kind), s.st = .noisyRetry → Kind.ofOpr s.cmd.opr = some k →
    (s.drawAt 0).error = false → (s.drawAt 1).error = false → (s.drawAt 2).error = false →
    ∃ t, engineStep s = .next t ∧
      t.log = s.log ++ [.request (.chWrite [s.params.cancelSeq.1, s.params.cancelSeq.2]) (.count (s.drawAt 0).count),
        .request .chReadByte (match (s.drawAt 1).byte with | some b => .byte b | none => .nothing),
        .delay s.params.tPause1, .request .chFlushIn .ok, .delay s.params.tPause2] ∧
      Consumed 3 s t ∧ EngineFrame s t ∧ SameTx s t ∧ SameResult s t ∧
      (s.att < 5 → t.st = .sending ∧ CountersAre t (s.att + 1) (s.ccnt + 1) 0 0 ∧ t.rxLen = 0 ∧
        ∀ a, Memory.read t.rxBuf a = none) ∧
      (5 ≤ s.att → t.st = .exhausted ∧ CountersAre t s.att (s.ccnt + 1) s.pcnt s.dcnt ∧ SameRx s t)

/-- Accepted leads to Parsed; so does Exhausted for PING, READ and WRITE, with the last capture; nothing else changes.
Exhausted for RESTART makes one ChClose, whatever its answer, and fails with WRITE_SHORT (rules R244, R245). -/
def Obligations.AcceptedAndExhaustedLeave : Prop :=
  ∀ (s : State) (k : Kind), Kind.ofOpr s.cmd.opr = some k →
    (s.st = .accepted → engineStep s = .next { s with st := .parsed }) ∧
    (s.st = .exhausted → k ≠ .restart → engineStep s = .next { s with st := .parsed }) ∧
    (s.st = .exhausted → k = .restart → s.chOpen = true →
      ∃ t, engineStep s = .next t ∧ t.fails .transportUnreachable .writeShort ∧ BackToIdle t ∧
        t.log = s.log ++ [.request .chClose (if (s.drawAt 0).error then .error else .ok)] ∧ Consumed 1 s t ∧
        t.csw = s.csw ∧
        CountersAre t s.att s.ccnt s.pcnt s.dcnt ∧ EngineFrame s t)

/-- Parsed: the capture is parsed by the latched command, the channel is closed once, and then the parse's failure, or
CH_CLOSE, or the value is delivered, in that order of precedence (rules R185, R246, R303). -/
def Obligations.ParsedClosesAndDelivers : Prop :=
  ∀ (s : State) (k : Kind) (buf : Bytes) (r : ParseResult), s.st = .parsed → Kind.ofOpr s.cmd.opr = some k →
    s.capture = some buf → r = parse s.params k buf s.cmd.operands →
    ∃ t, engineStep s = .next t ∧ BackToIdle t ∧ t.csw = (s.csw || r.csw) ∧
      t.log = s.log ++ [.request .chClose (if (s.drawAt 0).error then .error else .ok)] ∧ Consumed 1 s t ∧
      CountersAre t s.att s.ccnt s.pcnt s.dcnt ∧ EngineFrame s t ∧
      (∀ c, r.out = .fail c → t.fails (failKindOf c) c) ∧
      (∀ v, r.out = .ok v → (s.drawAt 0).error = true → t.fails .transportUnreachable .chClose) ∧
      (∀ v, r.out = .ok v → (s.drawAt 0).error = false → t.delivers v.tag v.data)

/-- A channel request `r` answered `error` ends the transaction, whatever ATT is: after the events `made` that the step
made before it, the code of that request, one best-effort ChClose as the last request, Idle (rules R300, R301). That
CCNT rises in the step of NoisyRetry is assumption 12. -/
def Obligations.ChannelErrorEndsTransaction : Prop :=
  ∀ (s : State) (k : Kind) (code : FailCode) (r : Request) (made : List Event),
    Kind.ofOpr s.cmd.opr = some k → s.chOpen = true →
    ((s.st = .sending ∧ code = .chWrite ∧ (∃ f, s.frame = some f ∧ r = .chWrite f) ∧ made = [] ∧
       (s.drawAt 0).error = true) ∨
     (s.st = .awaitingData ∧ code = .chAvail ∧ r = .chAvail ∧ made = [] ∧ (s.drawAt 0).error = true) ∨
     (s.st = .draining ∧ s.dcnt < s.params.nDrain ∧ code = .chAvail ∧ r = .chAvail ∧ made = [] ∧
       (s.drawAt 0).error = true) ∨
     (s.st = .draining ∧ s.dcnt < s.params.nDrain ∧ code = .chRead ∧ r = .chReadByte ∧
       made = [.request .chAvail (.count (s.drawAt 0).count)] ∧ (s.drawAt 0).error = false ∧
       0 < (s.drawAt 0).count ∧ (s.drawAt 1).error = true) ∨
     (s.st = .noisyRetry ∧ code = .chWrite ∧ r = .chWrite [s.params.cancelSeq.1, s.params.cancelSeq.2] ∧
       made = [] ∧ (s.drawAt 0).error = true) ∨
     (s.st = .noisyRetry ∧ code = .chRead ∧ r = .chReadByte ∧
       made = [.request (.chWrite [s.params.cancelSeq.1, s.params.cancelSeq.2]) (.count (s.drawAt 0).count)] ∧
       (s.drawAt 0).error = false ∧ (s.drawAt 1).error = true) ∨
     (s.st = .noisyRetry ∧ code = .chFlush ∧ r = .chFlushIn ∧
       made = [.request (.chWrite [s.params.cancelSeq.1, s.params.cancelSeq.2]) (.count (s.drawAt 0).count),
         .request .chReadByte (match (s.drawAt 1).byte with | some b => .byte b | none => .nothing),
         .delay s.params.tPause1] ∧
       (s.drawAt 0).error = false ∧ (s.drawAt 1).error = false ∧ (s.drawAt 2).error = true)) →
    ∃ t, engineStep s = .next t ∧ t.fails .transportUnreachable code ∧ BackToIdle t ∧ t.csw = s.csw ∧
      t.log = s.log ++ made ++ [.request r .error,
        .request .chClose (if (s.drawAt (requestCount made + 1)).error then .error else .ok)] ∧
      Consumed (requestCount made + 2) s t ∧ t.att = s.att ∧
      t.ccnt = s.ccnt + (if s.st = .noisyRetry then 1 else 0) ∧ t.pcnt = s.pcnt ∧ t.dcnt = s.dcnt ∧
      EngineFrame s t

/-- Every way from a running transaction back to Idle leaves the channel closed, both buffers empty and a result, and its
last channel request is its only ChClose (rule R247). -/
def Obligations.EveryExitClosesOnce : Prop :=
  ∀ s t : State, Inv s → TraceInv s → s.st ≠ .idle → engineStep s = .next t → t.st = .idle →
    BackToIdle t ∧ t.res.status ≠ .none ∧ countRequests isClose t.trace = 1 ∧
      ∃ a, t.trace.getLast? = some (.request .chClose a)

/-! ## Whole transactions -/

/-- The immediate reply: a READ whose reply comes at once, whole and right, is answered on the first attempt with the
data the device sent, by the format, with no recovery sequence (rule R255, first case, for every register, length and
named format), in a configured block (rule R326). -/
def Obligations.ImmediateReplyIsDelivered : Prop :=
  ∀ (s : State) (o : Operands) (d : Bytes) (c : Byte),
    Inv s → s.st = .idle → s.configured = true →
    s.hostIn = [{ act := .command { opr := 11, operands := o }, reset := none }] →
    o.wellFormed s.params = true → fieldsAccepted s.params o → d.length = o.len →
    (fmtInt o.fmt → widthOk s.params o.len) → sumsTo85 (dataPayload 0x07 o.reg d) c →
    ¬ noisy s.params .read o.len (dataFrame 0x37 o.reg d c) →
    s.chScript = [answerCount 0, answerCount 11, answerCount (11 + 2 * o.len)] ++
      replyDraws (dataFrame 0x37 o.reg d c) ++ [answerCount 0, answerCount 0] →
    ∃ n t tag data, Host.Core.run Sys2Proof.core n s = .next t ∧ t.st = .idle ∧ t.delivers tag data ∧
      deliveredBy o.fmt o.len d tag data ∧ t.att = 1 ∧ t.ccnt = 0 ∧ t.csw = false ∧ t.chOpen = false ∧
      ∃ q, sends (readFrame o.reg q) t.trace = 1 ∧ cancels s.params t.trace = 0

/-- A device that never answers: a READ sends its frame five times, makes five recovery sequences, and then hands the
empty capture to the parser (rules R232, R242, R245, R285), in a configured block (rule R326). -/
def Obligations.SilentDeviceExhausts : Prop :=
  ∀ (s : State) (o : Operands) (a : Draw),
    Inv s → s.st = .idle → s.configured = true →
    s.hostIn = [{ act := .command { opr := 11, operands := o }, reset := none }] →
    o.wellFormed s.params = true → fieldsAccepted s.params o →
    s.chScript = [answerCount 0] ++ (List.replicate 5 (silentAttempt s.params 11)).flatten ++ [a] →
    ∃ n t, Host.Core.run Sys2Proof.core n s = .next t ∧ t.st = .idle ∧ t.fails .malformedReply .tooShort ∧
      t.att = 5 ∧ t.ccnt = 5 ∧ t.chOpen = false ∧ cancels s.params t.trace = 5 ∧
      ∃ q, sends (readFrame o.reg q) t.trace = 5

/-- Noise on every attempt: with any capture that is noise, a READ sends its frame five times, and the last noisy
capture is still handed to the parser, whose verdict is the result (rules R239, R242, R245, R255 fourth case), in a
configured block (rule R326). -/
def Obligations.NoiseOnEveryAttemptExhausts : Prop :=
  ∀ (s : State) (o : Operands) (buf : Bytes) (r : ParseResult),
    Inv s → s.st = .idle → s.configured = true →
    s.hostIn = [{ act := .command { opr := 11, operands := o }, reset := none }] →
    o.wellFormed s.params = true → fieldsAccepted s.params o →
    buf ≠ [] → buf.length < s.params.nDrain → noisy s.params .read o.len buf →
    s.chScript = [answerCount 0] ++ (List.replicate 5 ([answerCount 11, answerCount 1] ++ replyDraws buf ++
      [answerCount 0, answerCount 2, answerCount 0, answerCount 0])).flatten ++ [answerCount 0] →
    r = parse s.params .read buf o →
    ∃ n t, Host.Core.run Sys2Proof.core n s = .next t ∧ t.st = .idle ∧ t.att = 5 ∧ t.ccnt = 5 ∧
      t.chOpen = false ∧ cancels s.params t.trace = 5 ∧ (∃ q, sends (readFrame o.reg q) t.trace = 5) ∧
      t.csw = r.csw ∧ (∀ c, r.out = .fail c → t.fails (failKindOf c) c) ∧
      (∀ v, r.out = .ok v → t.delivers v.tag v.data)

/-! ## What the host reads -/

/-- The result port shows each register, and an operation is complete when RES_STATUS is OK or FAIL and BUSY is 0 (rule
R48); the numeric codes of RES_STATUS, RES_TAG, FAIL_KIND and ST, and the code and the kind of every failure (rules R27
to R30, R281, R282); and, in every state of the invariant, a tag and a value only with OK, of at most RES_CAP bytes,
and a kind and a code with FAIL and only then (rules R28, R29). -/
def Obligations.ResultPortShowsTheRegisters : Prop :=
  (∀ s : State, s.resultPort.resStatus = resStatusBits s.res.status ∧ s.resultPort.resTag = resTagBits s.res.tag ∧
    s.resultPort.resLen = s.res.data.length ∧ s.resultPort.resData = s.res.data ∧
    s.resultPort.failKind = failKindBits s.res.failKind ∧ s.resultPort.failCode = failCodeBits s.res.failCode ∧
    s.resultPort.csw = s.csw ∧ s.resultPort.att = s.att ∧ s.resultPort.ccnt = s.ccnt ∧
    (s.resultPort.busy = true ↔ engineStateBits s.st ≠ 0) ∧ s.resultPort.chOpen = s.chOpen ∧
    (s.complete = true ↔
      (s.resultPort.resStatus = 1 ∨ s.resultPort.resStatus = 2) ∧ s.resultPort.busy = false)) ∧
  [ResStatus.none, .ok, .fail].map resStatusBits = [0, 1, 2] ∧
  [ResTag.void, .int, .bytes, .str, .bool].map resTagBits = [0, 1, 2, 3, 4] ∧
  [FailKind.none, .transportUnreachable, .malformedReply, .echoMismatch, .checksumMismatch, .unsupportedFormat,
    .codecError, .illegalOperation].map failKindBits = [0, 1, 2, 3, 4, 5, 6, 7] ∧
  [EngineState.idle, .sending, .awaitingData, .draining, .classifying, .accepted, .noisyRetry, .parsed,
    .exhausted].map engineStateBits = [0, 1, 2, 3, 4, 5, 6, 7, 8] ∧
  [FailCode.noFailure, .chOpen, .chWrite, .chAvail, .chRead, .chFlush, .chClose, .writeShort, .tooShort, .terminator,
    .hexDigit, .echoCommand, .echoRegister, .echoFlags, .checksum, .format, .width, .hexOdd, .hexChar, .revWidth,
    .illegalOp, .operandRange].map (fun c => (failCodeBits c, failKindBits (failKindOf c))) =
    [(0, 0), (1, 1), (2, 1), (3, 1), (4, 1), (5, 1), (6, 1), (7, 1), (8, 2), (9, 2), (10, 2), (11, 3), (12, 3), (13, 3),
      (14, 4), (15, 5), (16, 5), (17, 6), (18, 6), (19, 6), (20, 7), (21, 7)] ∧
  (∀ s : State, Inv s →
    (s.resultPort.resStatus ≠ 1 → s.resultPort.resTag = 0 ∧ s.resultPort.resLen = 0) ∧
    s.resultPort.resLen ≤ max (2 * s.params.abufCap) (max (11 + 2 * s.params.maxLen) s.params.nDrain) ∧
    (s.resultPort.resStatus = 2 ↔ s.resultPort.failCode ≠ 0) ∧
    (s.resultPort.resStatus = 2 ↔ s.resultPort.failKind ≠ 0))
end

