-- ==== Sys2Proof/Laws/State.lean ====
section
/-! SUPPORT. What each named update of the state does to each field. -/

namespace Sys2Proof.Machine

@[simp] theorem State.noteCsw_cmd (s : State) (mismatch : Bool) : (s.noteCsw mismatch).cmd = s.cmd := rfl
@[simp] theorem State.noteCsw_res (s : State) (mismatch : Bool) : (s.noteCsw mismatch).res = s.res := rfl
@[simp] theorem State.noteCsw_st (s : State) (mismatch : Bool) : (s.noteCsw mismatch).st = s.st := rfl
@[simp] theorem State.noteCsw_att (s : State) (mismatch : Bool) : (s.noteCsw mismatch).att = s.att := rfl
@[simp] theorem State.noteCsw_pcnt (s : State) (mismatch : Bool) : (s.noteCsw mismatch).pcnt = s.pcnt := rfl
@[simp] theorem State.noteCsw_dcnt (s : State) (mismatch : Bool) : (s.noteCsw mismatch).dcnt = s.dcnt := rfl
@[simp] theorem State.noteCsw_ccnt (s : State) (mismatch : Bool) : (s.noteCsw mismatch).ccnt = s.ccnt := rfl
@[simp] theorem State.noteCsw_csw (s : State) (mismatch : Bool) : (s.noteCsw mismatch).csw = (s.csw || mismatch) := rfl
@[simp] theorem State.noteCsw_chOpen (s : State) (mismatch : Bool) : (s.noteCsw mismatch).chOpen = s.chOpen := rfl
@[simp] theorem State.noteCsw_txBuf (s : State) (mismatch : Bool) : (s.noteCsw mismatch).txBuf = s.txBuf := rfl
@[simp] theorem State.noteCsw_txLen (s : State) (mismatch : Bool) : (s.noteCsw mismatch).txLen = s.txLen := rfl
@[simp] theorem State.noteCsw_rxBuf (s : State) (mismatch : Bool) : (s.noteCsw mismatch).rxBuf = s.rxBuf := rfl
@[simp] theorem State.noteCsw_rxLen (s : State) (mismatch : Bool) : (s.noteCsw mismatch).rxLen = s.rxLen := rfl
@[simp] theorem State.noteCsw_cfg (s : State) (mismatch : Bool) : (s.noteCsw mismatch).cfg = s.cfg := rfl
@[simp] theorem State.noteCsw_params (s : State) (mismatch : Bool) : (s.noteCsw mismatch).params = s.params := rfl
@[simp] theorem State.noteCsw_hostIn (s : State) (mismatch : Bool) : (s.noteCsw mismatch).hostIn = s.hostIn := rfl
@[simp] theorem State.noteCsw_chScript (s : State) (mismatch : Bool) : (s.noteCsw mismatch).chScript = s.chScript := rfl
@[simp] theorem State.noteCsw_chDraws (s : State) (mismatch : Bool) : (s.noteCsw mismatch).chDraws = s.chDraws := rfl
@[simp] theorem State.noteCsw_log (s : State) (mismatch : Bool) : (s.noteCsw mismatch).log = s.log := rfl
@[simp] theorem State.noteCsw_mark (s : State) (mismatch : Bool) : (s.noteCsw mismatch).mark = s.mark := rfl
@[simp] theorem State.noteCsw_portAck (s : State) (mismatch : Bool) : (s.noteCsw mismatch).portAck = s.portAck := rfl

@[simp] theorem State.channelOpened_cmd (s : State) : (s.channelOpened).cmd = s.cmd := rfl
@[simp] theorem State.channelOpened_res (s : State) : (s.channelOpened).res = s.res := rfl
@[simp] theorem State.channelOpened_st (s : State) : (s.channelOpened).st = s.st := rfl
@[simp] theorem State.channelOpened_att (s : State) : (s.channelOpened).att = s.att := rfl
@[simp] theorem State.channelOpened_pcnt (s : State) : (s.channelOpened).pcnt = s.pcnt := rfl
@[simp] theorem State.channelOpened_dcnt (s : State) : (s.channelOpened).dcnt = s.dcnt := rfl
@[simp] theorem State.channelOpened_ccnt (s : State) : (s.channelOpened).ccnt = s.ccnt := rfl
@[simp] theorem State.channelOpened_csw (s : State) : (s.channelOpened).csw = s.csw := rfl
@[simp] theorem State.channelOpened_chOpen (s : State) : (s.channelOpened).chOpen = true := rfl
@[simp] theorem State.channelOpened_txBuf (s : State) : (s.channelOpened).txBuf = s.txBuf := rfl
@[simp] theorem State.channelOpened_txLen (s : State) : (s.channelOpened).txLen = s.txLen := rfl
@[simp] theorem State.channelOpened_rxBuf (s : State) : (s.channelOpened).rxBuf = s.rxBuf := rfl
@[simp] theorem State.channelOpened_rxLen (s : State) : (s.channelOpened).rxLen = s.rxLen := rfl
@[simp] theorem State.channelOpened_cfg (s : State) : (s.channelOpened).cfg = s.cfg := rfl
@[simp] theorem State.channelOpened_params (s : State) : (s.channelOpened).params = s.params := rfl
@[simp] theorem State.channelOpened_hostIn (s : State) : (s.channelOpened).hostIn = s.hostIn := rfl
@[simp] theorem State.channelOpened_chScript (s : State) : (s.channelOpened).chScript = s.chScript := rfl
@[simp] theorem State.channelOpened_chDraws (s : State) : (s.channelOpened).chDraws = s.chDraws := rfl
@[simp] theorem State.channelOpened_log (s : State) : (s.channelOpened).log = s.log := rfl
@[simp] theorem State.channelOpened_mark (s : State) : (s.channelOpened).mark = s.mark := rfl
@[simp] theorem State.channelOpened_portAck (s : State) : (s.channelOpened).portAck = s.portAck := rfl

@[simp] theorem State.channelClosed_cmd (s : State) : (s.channelClosed).cmd = s.cmd := rfl
@[simp] theorem State.channelClosed_res (s : State) : (s.channelClosed).res = s.res := rfl
@[simp] theorem State.channelClosed_st (s : State) : (s.channelClosed).st = s.st := rfl
@[simp] theorem State.channelClosed_att (s : State) : (s.channelClosed).att = s.att := rfl
@[simp] theorem State.channelClosed_pcnt (s : State) : (s.channelClosed).pcnt = s.pcnt := rfl
@[simp] theorem State.channelClosed_dcnt (s : State) : (s.channelClosed).dcnt = s.dcnt := rfl
@[simp] theorem State.channelClosed_ccnt (s : State) : (s.channelClosed).ccnt = s.ccnt := rfl
@[simp] theorem State.channelClosed_csw (s : State) : (s.channelClosed).csw = s.csw := rfl
@[simp] theorem State.channelClosed_chOpen (s : State) : (s.channelClosed).chOpen = false := rfl
@[simp] theorem State.channelClosed_txBuf (s : State) : (s.channelClosed).txBuf = s.txBuf := rfl
@[simp] theorem State.channelClosed_txLen (s : State) : (s.channelClosed).txLen = s.txLen := rfl
@[simp] theorem State.channelClosed_rxBuf (s : State) : (s.channelClosed).rxBuf = s.rxBuf := rfl
@[simp] theorem State.channelClosed_rxLen (s : State) : (s.channelClosed).rxLen = s.rxLen := rfl
@[simp] theorem State.channelClosed_cfg (s : State) : (s.channelClosed).cfg = s.cfg := rfl
@[simp] theorem State.channelClosed_params (s : State) : (s.channelClosed).params = s.params := rfl
@[simp] theorem State.channelClosed_hostIn (s : State) : (s.channelClosed).hostIn = s.hostIn := rfl
@[simp] theorem State.channelClosed_chScript (s : State) : (s.channelClosed).chScript = s.chScript := rfl
@[simp] theorem State.channelClosed_chDraws (s : State) : (s.channelClosed).chDraws = s.chDraws := rfl
@[simp] theorem State.channelClosed_log (s : State) : (s.channelClosed).log = s.log := rfl
@[simp] theorem State.channelClosed_mark (s : State) : (s.channelClosed).mark = s.mark := rfl
@[simp] theorem State.channelClosed_portAck (s : State) : (s.channelClosed).portAck = s.portAck := rfl

@[simp] theorem State.request_cmd (s : State) (r : Request) : (s.request r).cmd = s.cmd := rfl
@[simp] theorem State.request_res (s : State) (r : Request) : (s.request r).res = s.res := rfl
@[simp] theorem State.request_st (s : State) (r : Request) : (s.request r).st = s.st := rfl
@[simp] theorem State.request_att (s : State) (r : Request) : (s.request r).att = s.att := rfl
@[simp] theorem State.request_pcnt (s : State) (r : Request) : (s.request r).pcnt = s.pcnt := rfl
@[simp] theorem State.request_dcnt (s : State) (r : Request) : (s.request r).dcnt = s.dcnt := rfl
@[simp] theorem State.request_ccnt (s : State) (r : Request) : (s.request r).ccnt = s.ccnt := rfl
@[simp] theorem State.request_csw (s : State) (r : Request) : (s.request r).csw = s.csw := rfl
@[simp] theorem State.request_chOpen (s : State) (r : Request) : (s.request r).chOpen = s.chOpen := rfl
@[simp] theorem State.request_txBuf (s : State) (r : Request) : (s.request r).txBuf = s.txBuf := rfl
@[simp] theorem State.request_txLen (s : State) (r : Request) : (s.request r).txLen = s.txLen := rfl
@[simp] theorem State.request_rxBuf (s : State) (r : Request) : (s.request r).rxBuf = s.rxBuf := rfl
@[simp] theorem State.request_rxLen (s : State) (r : Request) : (s.request r).rxLen = s.rxLen := rfl
@[simp] theorem State.request_cfg (s : State) (r : Request) : (s.request r).cfg = s.cfg := rfl
@[simp] theorem State.request_params (s : State) (r : Request) : (s.request r).params = s.params := rfl
@[simp] theorem State.request_hostIn (s : State) (r : Request) : (s.request r).hostIn = s.hostIn := rfl
@[simp] theorem State.request_chScript (s : State) (r : Request) : (s.request r).chScript = s.chScript.tail := rfl
@[simp] theorem State.request_chDraws (s : State) (r : Request) : (s.request r).chDraws = s.chDraws + 1 := rfl
@[simp] theorem State.request_log (s : State) (r : Request) : (s.request r).log = s.log ++ [.request r (answerOf r s.nextDraw)] := rfl
@[simp] theorem State.request_mark (s : State) (r : Request) : (s.request r).mark = s.mark := rfl
@[simp] theorem State.request_portAck (s : State) (r : Request) : (s.request r).portAck = s.portAck := rfl

@[simp] theorem State.delay_cmd (s : State) (t : Nat) : (s.delay t).cmd = s.cmd := rfl
@[simp] theorem State.delay_res (s : State) (t : Nat) : (s.delay t).res = s.res := rfl
@[simp] theorem State.delay_st (s : State) (t : Nat) : (s.delay t).st = s.st := rfl
@[simp] theorem State.delay_att (s : State) (t : Nat) : (s.delay t).att = s.att := rfl
@[simp] theorem State.delay_pcnt (s : State) (t : Nat) : (s.delay t).pcnt = s.pcnt := rfl
@[simp] theorem State.delay_dcnt (s : State) (t : Nat) : (s.delay t).dcnt = s.dcnt := rfl
@[simp] theorem State.delay_ccnt (s : State) (t : Nat) : (s.delay t).ccnt = s.ccnt := rfl
@[simp] theorem State.delay_csw (s : State) (t : Nat) : (s.delay t).csw = s.csw := rfl
@[simp] theorem State.delay_chOpen (s : State) (t : Nat) : (s.delay t).chOpen = s.chOpen := rfl
@[simp] theorem State.delay_txBuf (s : State) (t : Nat) : (s.delay t).txBuf = s.txBuf := rfl
@[simp] theorem State.delay_txLen (s : State) (t : Nat) : (s.delay t).txLen = s.txLen := rfl
@[simp] theorem State.delay_rxBuf (s : State) (t : Nat) : (s.delay t).rxBuf = s.rxBuf := rfl
@[simp] theorem State.delay_rxLen (s : State) (t : Nat) : (s.delay t).rxLen = s.rxLen := rfl
@[simp] theorem State.delay_cfg (s : State) (t : Nat) : (s.delay t).cfg = s.cfg := rfl
@[simp] theorem State.delay_params (s : State) (t : Nat) : (s.delay t).params = s.params := rfl
@[simp] theorem State.delay_hostIn (s : State) (t : Nat) : (s.delay t).hostIn = s.hostIn := rfl
@[simp] theorem State.delay_chScript (s : State) (t : Nat) : (s.delay t).chScript = s.chScript := rfl
@[simp] theorem State.delay_chDraws (s : State) (t : Nat) : (s.delay t).chDraws = s.chDraws := rfl
@[simp] theorem State.delay_log (s : State) (t : Nat) : (s.delay t).log = s.log ++ [.delay t] := rfl
@[simp] theorem State.delay_mark (s : State) (t : Nat) : (s.delay t).mark = s.mark := rfl
@[simp] theorem State.delay_portAck (s : State) (t : Nat) : (s.delay t).portAck = s.portAck := rfl

@[simp] theorem State.clearTx_cmd (s : State) : (s.clearTx).cmd = s.cmd := rfl
@[simp] theorem State.clearTx_res (s : State) : (s.clearTx).res = s.res := rfl
@[simp] theorem State.clearTx_st (s : State) : (s.clearTx).st = s.st := rfl
@[simp] theorem State.clearTx_att (s : State) : (s.clearTx).att = s.att := rfl
@[simp] theorem State.clearTx_pcnt (s : State) : (s.clearTx).pcnt = s.pcnt := rfl
@[simp] theorem State.clearTx_dcnt (s : State) : (s.clearTx).dcnt = s.dcnt := rfl
@[simp] theorem State.clearTx_ccnt (s : State) : (s.clearTx).ccnt = s.ccnt := rfl
@[simp] theorem State.clearTx_csw (s : State) : (s.clearTx).csw = s.csw := rfl
@[simp] theorem State.clearTx_chOpen (s : State) : (s.clearTx).chOpen = s.chOpen := rfl
@[simp] theorem State.clearTx_txBuf (s : State) : (s.clearTx).txBuf = [] := rfl
@[simp] theorem State.clearTx_txLen (s : State) : (s.clearTx).txLen = 0 := rfl
@[simp] theorem State.clearTx_rxBuf (s : State) : (s.clearTx).rxBuf = s.rxBuf := rfl
@[simp] theorem State.clearTx_rxLen (s : State) : (s.clearTx).rxLen = s.rxLen := rfl
@[simp] theorem State.clearTx_cfg (s : State) : (s.clearTx).cfg = s.cfg := rfl
@[simp] theorem State.clearTx_params (s : State) : (s.clearTx).params = s.params := rfl
@[simp] theorem State.clearTx_hostIn (s : State) : (s.clearTx).hostIn = s.hostIn := rfl
@[simp] theorem State.clearTx_chScript (s : State) : (s.clearTx).chScript = s.chScript := rfl
@[simp] theorem State.clearTx_chDraws (s : State) : (s.clearTx).chDraws = s.chDraws := rfl
@[simp] theorem State.clearTx_log (s : State) : (s.clearTx).log = s.log := rfl
@[simp] theorem State.clearTx_mark (s : State) : (s.clearTx).mark = s.mark := rfl
@[simp] theorem State.clearTx_portAck (s : State) : (s.clearTx).portAck = s.portAck := rfl

@[simp] theorem State.clearRx_cmd (s : State) : (s.clearRx).cmd = s.cmd := rfl
@[simp] theorem State.clearRx_res (s : State) : (s.clearRx).res = s.res := rfl
@[simp] theorem State.clearRx_st (s : State) : (s.clearRx).st = s.st := rfl
@[simp] theorem State.clearRx_att (s : State) : (s.clearRx).att = s.att := rfl
@[simp] theorem State.clearRx_pcnt (s : State) : (s.clearRx).pcnt = s.pcnt := rfl
@[simp] theorem State.clearRx_dcnt (s : State) : (s.clearRx).dcnt = s.dcnt := rfl
@[simp] theorem State.clearRx_ccnt (s : State) : (s.clearRx).ccnt = s.ccnt := rfl
@[simp] theorem State.clearRx_csw (s : State) : (s.clearRx).csw = s.csw := rfl
@[simp] theorem State.clearRx_chOpen (s : State) : (s.clearRx).chOpen = s.chOpen := rfl
@[simp] theorem State.clearRx_txBuf (s : State) : (s.clearRx).txBuf = s.txBuf := rfl
@[simp] theorem State.clearRx_txLen (s : State) : (s.clearRx).txLen = s.txLen := rfl
@[simp] theorem State.clearRx_rxBuf (s : State) : (s.clearRx).rxBuf = [] := rfl
@[simp] theorem State.clearRx_rxLen (s : State) : (s.clearRx).rxLen = 0 := rfl
@[simp] theorem State.clearRx_cfg (s : State) : (s.clearRx).cfg = s.cfg := rfl
@[simp] theorem State.clearRx_params (s : State) : (s.clearRx).params = s.params := rfl
@[simp] theorem State.clearRx_hostIn (s : State) : (s.clearRx).hostIn = s.hostIn := rfl
@[simp] theorem State.clearRx_chScript (s : State) : (s.clearRx).chScript = s.chScript := rfl
@[simp] theorem State.clearRx_chDraws (s : State) : (s.clearRx).chDraws = s.chDraws := rfl
@[simp] theorem State.clearRx_log (s : State) : (s.clearRx).log = s.log := rfl
@[simp] theorem State.clearRx_mark (s : State) : (s.clearRx).mark = s.mark := rfl
@[simp] theorem State.clearRx_portAck (s : State) : (s.clearRx).portAck = s.portAck := rfl

@[simp] theorem State.closeChannel_cmd (s : State) : (s.closeChannel).cmd = s.cmd := rfl
@[simp] theorem State.closeChannel_res (s : State) : (s.closeChannel).res = s.res := rfl
@[simp] theorem State.closeChannel_st (s : State) : (s.closeChannel).st = s.st := rfl
@[simp] theorem State.closeChannel_att (s : State) : (s.closeChannel).att = s.att := rfl
@[simp] theorem State.closeChannel_pcnt (s : State) : (s.closeChannel).pcnt = s.pcnt := rfl
@[simp] theorem State.closeChannel_dcnt (s : State) : (s.closeChannel).dcnt = s.dcnt := rfl
@[simp] theorem State.closeChannel_ccnt (s : State) : (s.closeChannel).ccnt = s.ccnt := rfl
@[simp] theorem State.closeChannel_csw (s : State) : (s.closeChannel).csw = s.csw := rfl
@[simp] theorem State.closeChannel_chOpen (s : State) : (s.closeChannel).chOpen = false := rfl
@[simp] theorem State.closeChannel_txBuf (s : State) : (s.closeChannel).txBuf = s.txBuf := rfl
@[simp] theorem State.closeChannel_txLen (s : State) : (s.closeChannel).txLen = s.txLen := rfl
@[simp] theorem State.closeChannel_rxBuf (s : State) : (s.closeChannel).rxBuf = s.rxBuf := rfl
@[simp] theorem State.closeChannel_rxLen (s : State) : (s.closeChannel).rxLen = s.rxLen := rfl
@[simp] theorem State.closeChannel_cfg (s : State) : (s.closeChannel).cfg = s.cfg := rfl
@[simp] theorem State.closeChannel_params (s : State) : (s.closeChannel).params = s.params := rfl
@[simp] theorem State.closeChannel_hostIn (s : State) : (s.closeChannel).hostIn = s.hostIn := rfl
@[simp] theorem State.closeChannel_chScript (s : State) : (s.closeChannel).chScript = s.chScript.tail := rfl
@[simp] theorem State.closeChannel_chDraws (s : State) : (s.closeChannel).chDraws = s.chDraws + 1 := rfl
@[simp] theorem State.closeChannel_log (s : State) : (s.closeChannel).log = s.log ++ [.request .chClose (answerOf .chClose s.nextDraw)] := rfl
@[simp] theorem State.closeChannel_mark (s : State) : (s.closeChannel).mark = s.mark := rfl
@[simp] theorem State.closeChannel_portAck (s : State) : (s.closeChannel).portAck = s.portAck := rfl

@[simp] theorem State.toIdle_cmd (s : State) : (s.toIdle).cmd = s.cmd := rfl
@[simp] theorem State.toIdle_res (s : State) : (s.toIdle).res = s.res := rfl
@[simp] theorem State.toIdle_st (s : State) : (s.toIdle).st = .idle := rfl
@[simp] theorem State.toIdle_att (s : State) : (s.toIdle).att = s.att := rfl
@[simp] theorem State.toIdle_pcnt (s : State) : (s.toIdle).pcnt = s.pcnt := rfl
@[simp] theorem State.toIdle_dcnt (s : State) : (s.toIdle).dcnt = s.dcnt := rfl
@[simp] theorem State.toIdle_ccnt (s : State) : (s.toIdle).ccnt = s.ccnt := rfl
@[simp] theorem State.toIdle_csw (s : State) : (s.toIdle).csw = s.csw := rfl
@[simp] theorem State.toIdle_chOpen (s : State) : (s.toIdle).chOpen = s.chOpen := rfl
@[simp] theorem State.toIdle_txBuf (s : State) : (s.toIdle).txBuf = [] := rfl
@[simp] theorem State.toIdle_txLen (s : State) : (s.toIdle).txLen = 0 := rfl
@[simp] theorem State.toIdle_rxBuf (s : State) : (s.toIdle).rxBuf = [] := rfl
@[simp] theorem State.toIdle_rxLen (s : State) : (s.toIdle).rxLen = 0 := rfl
@[simp] theorem State.toIdle_cfg (s : State) : (s.toIdle).cfg = s.cfg := rfl
@[simp] theorem State.toIdle_params (s : State) : (s.toIdle).params = s.params := rfl
@[simp] theorem State.toIdle_hostIn (s : State) : (s.toIdle).hostIn = s.hostIn := rfl
@[simp] theorem State.toIdle_chScript (s : State) : (s.toIdle).chScript = s.chScript := rfl
@[simp] theorem State.toIdle_chDraws (s : State) : (s.toIdle).chDraws = s.chDraws := rfl
@[simp] theorem State.toIdle_log (s : State) : (s.toIdle).log = s.log := rfl
@[simp] theorem State.toIdle_mark (s : State) : (s.toIdle).mark = s.mark := rfl
@[simp] theorem State.toIdle_portAck (s : State) : (s.toIdle).portAck = s.portAck := rfl

@[simp] theorem State.deliverUnit_cmd (s : State) (tag : ResTag) (data : Bytes) : (s.deliverUnit tag data).cmd = s.cmd := rfl
@[simp] theorem State.deliverUnit_res (s : State) (tag : ResTag) (data : Bytes) : (s.deliverUnit tag data).res = okRegs tag data := rfl
@[simp] theorem State.deliverUnit_st (s : State) (tag : ResTag) (data : Bytes) : (s.deliverUnit tag data).st = s.st := rfl
@[simp] theorem State.deliverUnit_att (s : State) (tag : ResTag) (data : Bytes) : (s.deliverUnit tag data).att = s.att := rfl
@[simp] theorem State.deliverUnit_pcnt (s : State) (tag : ResTag) (data : Bytes) : (s.deliverUnit tag data).pcnt = s.pcnt := rfl
@[simp] theorem State.deliverUnit_dcnt (s : State) (tag : ResTag) (data : Bytes) : (s.deliverUnit tag data).dcnt = s.dcnt := rfl
@[simp] theorem State.deliverUnit_ccnt (s : State) (tag : ResTag) (data : Bytes) : (s.deliverUnit tag data).ccnt = s.ccnt := rfl
@[simp] theorem State.deliverUnit_csw (s : State) (tag : ResTag) (data : Bytes) : (s.deliverUnit tag data).csw = s.csw := rfl
@[simp] theorem State.deliverUnit_chOpen (s : State) (tag : ResTag) (data : Bytes) : (s.deliverUnit tag data).chOpen = s.chOpen := rfl
@[simp] theorem State.deliverUnit_txBuf (s : State) (tag : ResTag) (data : Bytes) : (s.deliverUnit tag data).txBuf = s.txBuf := rfl
@[simp] theorem State.deliverUnit_txLen (s : State) (tag : ResTag) (data : Bytes) : (s.deliverUnit tag data).txLen = s.txLen := rfl
@[simp] theorem State.deliverUnit_rxBuf (s : State) (tag : ResTag) (data : Bytes) : (s.deliverUnit tag data).rxBuf = s.rxBuf := rfl
@[simp] theorem State.deliverUnit_rxLen (s : State) (tag : ResTag) (data : Bytes) : (s.deliverUnit tag data).rxLen = s.rxLen := rfl
@[simp] theorem State.deliverUnit_cfg (s : State) (tag : ResTag) (data : Bytes) : (s.deliverUnit tag data).cfg = s.cfg := rfl
@[simp] theorem State.deliverUnit_params (s : State) (tag : ResTag) (data : Bytes) : (s.deliverUnit tag data).params = s.params := rfl
@[simp] theorem State.deliverUnit_hostIn (s : State) (tag : ResTag) (data : Bytes) : (s.deliverUnit tag data).hostIn = s.hostIn := rfl
@[simp] theorem State.deliverUnit_chScript (s : State) (tag : ResTag) (data : Bytes) : (s.deliverUnit tag data).chScript = s.chScript := rfl
@[simp] theorem State.deliverUnit_chDraws (s : State) (tag : ResTag) (data : Bytes) : (s.deliverUnit tag data).chDraws = s.chDraws := rfl
@[simp] theorem State.deliverUnit_log (s : State) (tag : ResTag) (data : Bytes) : (s.deliverUnit tag data).log = s.log := rfl
@[simp] theorem State.deliverUnit_mark (s : State) (tag : ResTag) (data : Bytes) : (s.deliverUnit tag data).mark = s.mark := rfl
@[simp] theorem State.deliverUnit_portAck (s : State) (tag : ResTag) (data : Bytes) : (s.deliverUnit tag data).portAck = s.portAck := rfl

@[simp] theorem State.deliverOk_cmd (s : State) (v : Value) : (s.deliverOk v).cmd = s.cmd := rfl
@[simp] theorem State.deliverOk_res (s : State) (v : Value) : (s.deliverOk v).res = okRegs v.tag v.data := rfl
@[simp] theorem State.deliverOk_st (s : State) (v : Value) : (s.deliverOk v).st = .idle := rfl
@[simp] theorem State.deliverOk_att (s : State) (v : Value) : (s.deliverOk v).att = s.att := rfl
@[simp] theorem State.deliverOk_pcnt (s : State) (v : Value) : (s.deliverOk v).pcnt = s.pcnt := rfl
@[simp] theorem State.deliverOk_dcnt (s : State) (v : Value) : (s.deliverOk v).dcnt = s.dcnt := rfl
@[simp] theorem State.deliverOk_ccnt (s : State) (v : Value) : (s.deliverOk v).ccnt = s.ccnt := rfl
@[simp] theorem State.deliverOk_csw (s : State) (v : Value) : (s.deliverOk v).csw = s.csw := rfl
@[simp] theorem State.deliverOk_chOpen (s : State) (v : Value) : (s.deliverOk v).chOpen = s.chOpen := rfl
@[simp] theorem State.deliverOk_txBuf (s : State) (v : Value) : (s.deliverOk v).txBuf = [] := rfl
@[simp] theorem State.deliverOk_txLen (s : State) (v : Value) : (s.deliverOk v).txLen = 0 := rfl
@[simp] theorem State.deliverOk_rxBuf (s : State) (v : Value) : (s.deliverOk v).rxBuf = [] := rfl
@[simp] theorem State.deliverOk_rxLen (s : State) (v : Value) : (s.deliverOk v).rxLen = 0 := rfl
@[simp] theorem State.deliverOk_cfg (s : State) (v : Value) : (s.deliverOk v).cfg = s.cfg := rfl
@[simp] theorem State.deliverOk_params (s : State) (v : Value) : (s.deliverOk v).params = s.params := rfl
@[simp] theorem State.deliverOk_hostIn (s : State) (v : Value) : (s.deliverOk v).hostIn = s.hostIn := rfl
@[simp] theorem State.deliverOk_chScript (s : State) (v : Value) : (s.deliverOk v).chScript = s.chScript := rfl
@[simp] theorem State.deliverOk_chDraws (s : State) (v : Value) : (s.deliverOk v).chDraws = s.chDraws := rfl
@[simp] theorem State.deliverOk_log (s : State) (v : Value) : (s.deliverOk v).log = s.log := rfl
@[simp] theorem State.deliverOk_mark (s : State) (v : Value) : (s.deliverOk v).mark = s.mark := rfl
@[simp] theorem State.deliverOk_portAck (s : State) (v : Value) : (s.deliverOk v).portAck = s.portAck := rfl

@[simp] theorem State.acceptCommand_cmd (s : State) (c : Command) : (s.acceptCommand c).cmd = c := rfl
@[simp] theorem State.acceptCommand_res (s : State) (c : Command) : (s.acceptCommand c).res = ResultRegs.cleared := rfl
@[simp] theorem State.acceptCommand_st (s : State) (c : Command) : (s.acceptCommand c).st = s.st := rfl
@[simp] theorem State.acceptCommand_att (s : State) (c : Command) : (s.acceptCommand c).att = s.att := rfl
@[simp] theorem State.acceptCommand_pcnt (s : State) (c : Command) : (s.acceptCommand c).pcnt = s.pcnt := rfl
@[simp] theorem State.acceptCommand_dcnt (s : State) (c : Command) : (s.acceptCommand c).dcnt = s.dcnt := rfl
@[simp] theorem State.acceptCommand_ccnt (s : State) (c : Command) : (s.acceptCommand c).ccnt = s.ccnt := rfl
@[simp] theorem State.acceptCommand_csw (s : State) (c : Command) : (s.acceptCommand c).csw = false := rfl
@[simp] theorem State.acceptCommand_chOpen (s : State) (c : Command) : (s.acceptCommand c).chOpen = s.chOpen := rfl
@[simp] theorem State.acceptCommand_txBuf (s : State) (c : Command) : (s.acceptCommand c).txBuf = s.txBuf := rfl
@[simp] theorem State.acceptCommand_txLen (s : State) (c : Command) : (s.acceptCommand c).txLen = s.txLen := rfl
@[simp] theorem State.acceptCommand_rxBuf (s : State) (c : Command) : (s.acceptCommand c).rxBuf = s.rxBuf := rfl
@[simp] theorem State.acceptCommand_rxLen (s : State) (c : Command) : (s.acceptCommand c).rxLen = s.rxLen := rfl
@[simp] theorem State.acceptCommand_cfg (s : State) (c : Command) : (s.acceptCommand c).cfg = s.cfg := rfl
@[simp] theorem State.acceptCommand_params (s : State) (c : Command) : (s.acceptCommand c).params = s.params := rfl
@[simp] theorem State.acceptCommand_hostIn (s : State) (c : Command) : (s.acceptCommand c).hostIn = s.hostIn := rfl
@[simp] theorem State.acceptCommand_chScript (s : State) (c : Command) : (s.acceptCommand c).chScript = s.chScript := rfl
@[simp] theorem State.acceptCommand_chDraws (s : State) (c : Command) : (s.acceptCommand c).chDraws = s.chDraws := rfl
@[simp] theorem State.acceptCommand_log (s : State) (c : Command) : (s.acceptCommand c).log = s.log := rfl
@[simp] theorem State.acceptCommand_mark (s : State) (c : Command) : (s.acceptCommand c).mark = s.mark := rfl
@[simp] theorem State.acceptCommand_portAck (s : State) (c : Command) : (s.acceptCommand c).portAck = .accepted := rfl

@[simp] theorem State.rejectCommand_cmd (s : State) : (s.rejectCommand).cmd = s.cmd := rfl
@[simp] theorem State.rejectCommand_res (s : State) : (s.rejectCommand).res = s.res := rfl
@[simp] theorem State.rejectCommand_st (s : State) : (s.rejectCommand).st = s.st := rfl
@[simp] theorem State.rejectCommand_att (s : State) : (s.rejectCommand).att = s.att := rfl
@[simp] theorem State.rejectCommand_pcnt (s : State) : (s.rejectCommand).pcnt = s.pcnt := rfl
@[simp] theorem State.rejectCommand_dcnt (s : State) : (s.rejectCommand).dcnt = s.dcnt := rfl
@[simp] theorem State.rejectCommand_ccnt (s : State) : (s.rejectCommand).ccnt = s.ccnt := rfl
@[simp] theorem State.rejectCommand_csw (s : State) : (s.rejectCommand).csw = s.csw := rfl
@[simp] theorem State.rejectCommand_chOpen (s : State) : (s.rejectCommand).chOpen = s.chOpen := rfl
@[simp] theorem State.rejectCommand_txBuf (s : State) : (s.rejectCommand).txBuf = s.txBuf := rfl
@[simp] theorem State.rejectCommand_txLen (s : State) : (s.rejectCommand).txLen = s.txLen := rfl
@[simp] theorem State.rejectCommand_rxBuf (s : State) : (s.rejectCommand).rxBuf = s.rxBuf := rfl
@[simp] theorem State.rejectCommand_rxLen (s : State) : (s.rejectCommand).rxLen = s.rxLen := rfl
@[simp] theorem State.rejectCommand_cfg (s : State) : (s.rejectCommand).cfg = s.cfg := rfl
@[simp] theorem State.rejectCommand_params (s : State) : (s.rejectCommand).params = s.params := rfl
@[simp] theorem State.rejectCommand_hostIn (s : State) : (s.rejectCommand).hostIn = s.hostIn := rfl
@[simp] theorem State.rejectCommand_chScript (s : State) : (s.rejectCommand).chScript = s.chScript := rfl
@[simp] theorem State.rejectCommand_chDraws (s : State) : (s.rejectCommand).chDraws = s.chDraws := rfl
@[simp] theorem State.rejectCommand_log (s : State) : (s.rejectCommand).log = s.log := rfl
@[simp] theorem State.rejectCommand_mark (s : State) : (s.rejectCommand).mark = s.mark := rfl
@[simp] theorem State.rejectCommand_portAck (s : State) : (s.rejectCommand).portAck = .rejected := rfl

@[simp] theorem State.enterSending_cmd (s : State) : (s.enterSending).cmd = s.cmd := rfl
@[simp] theorem State.enterSending_res (s : State) : (s.enterSending).res = s.res := rfl
@[simp] theorem State.enterSending_st (s : State) : (s.enterSending).st = .sending := rfl
@[simp] theorem State.enterSending_att (s : State) : (s.enterSending).att = s.att + 1 := rfl
@[simp] theorem State.enterSending_pcnt (s : State) : (s.enterSending).pcnt = 0 := rfl
@[simp] theorem State.enterSending_dcnt (s : State) : (s.enterSending).dcnt = 0 := rfl
@[simp] theorem State.enterSending_ccnt (s : State) : (s.enterSending).ccnt = s.ccnt := rfl
@[simp] theorem State.enterSending_csw (s : State) : (s.enterSending).csw = s.csw := rfl
@[simp] theorem State.enterSending_chOpen (s : State) : (s.enterSending).chOpen = s.chOpen := rfl
@[simp] theorem State.enterSending_txBuf (s : State) : (s.enterSending).txBuf = s.txBuf := rfl
@[simp] theorem State.enterSending_txLen (s : State) : (s.enterSending).txLen = s.txLen := rfl
@[simp] theorem State.enterSending_rxBuf (s : State) : (s.enterSending).rxBuf = [] := rfl
@[simp] theorem State.enterSending_rxLen (s : State) : (s.enterSending).rxLen = 0 := rfl
@[simp] theorem State.enterSending_cfg (s : State) : (s.enterSending).cfg = s.cfg := rfl
@[simp] theorem State.enterSending_params (s : State) : (s.enterSending).params = s.params := rfl
@[simp] theorem State.enterSending_hostIn (s : State) : (s.enterSending).hostIn = s.hostIn := rfl
@[simp] theorem State.enterSending_chScript (s : State) : (s.enterSending).chScript = s.chScript := rfl
@[simp] theorem State.enterSending_chDraws (s : State) : (s.enterSending).chDraws = s.chDraws := rfl
@[simp] theorem State.enterSending_log (s : State) : (s.enterSending).log = s.log := rfl
@[simp] theorem State.enterSending_mark (s : State) : (s.enterSending).mark = s.mark := rfl
@[simp] theorem State.enterSending_portAck (s : State) : (s.enterSending).portAck = s.portAck := rfl

@[simp] theorem State.startTransaction_cmd (s : State) : (s.startTransaction).cmd = s.cmd := rfl
@[simp] theorem State.startTransaction_res (s : State) : (s.startTransaction).res = s.res := rfl
@[simp] theorem State.startTransaction_st (s : State) : (s.startTransaction).st = s.st := rfl
@[simp] theorem State.startTransaction_att (s : State) : (s.startTransaction).att = 0 := rfl
@[simp] theorem State.startTransaction_pcnt (s : State) : (s.startTransaction).pcnt = 0 := rfl
@[simp] theorem State.startTransaction_dcnt (s : State) : (s.startTransaction).dcnt = 0 := rfl
@[simp] theorem State.startTransaction_ccnt (s : State) : (s.startTransaction).ccnt = 0 := rfl
@[simp] theorem State.startTransaction_csw (s : State) : (s.startTransaction).csw = s.csw := rfl
@[simp] theorem State.startTransaction_chOpen (s : State) : (s.startTransaction).chOpen = s.chOpen := rfl
@[simp] theorem State.startTransaction_txBuf (s : State) : (s.startTransaction).txBuf = [] := rfl
@[simp] theorem State.startTransaction_txLen (s : State) : (s.startTransaction).txLen = 0 := rfl
@[simp] theorem State.startTransaction_rxBuf (s : State) : (s.startTransaction).rxBuf = [] := rfl
@[simp] theorem State.startTransaction_rxLen (s : State) : (s.startTransaction).rxLen = 0 := rfl
@[simp] theorem State.startTransaction_cfg (s : State) : (s.startTransaction).cfg = s.cfg := rfl
@[simp] theorem State.startTransaction_params (s : State) : (s.startTransaction).params = s.params := rfl
@[simp] theorem State.startTransaction_hostIn (s : State) : (s.startTransaction).hostIn = s.hostIn := rfl
@[simp] theorem State.startTransaction_chScript (s : State) : (s.startTransaction).chScript = s.chScript := rfl
@[simp] theorem State.startTransaction_chDraws (s : State) : (s.startTransaction).chDraws = s.chDraws := rfl
@[simp] theorem State.startTransaction_log (s : State) : (s.startTransaction).log = s.log := rfl
@[simp] theorem State.startTransaction_mark (s : State) : (s.startTransaction).mark = s.log.length := rfl
@[simp] theorem State.startTransaction_portAck (s : State) : (s.startTransaction).portAck = s.portAck := rfl

@[simp] theorem State.resetRegs_cmd (s : State) : (s.resetRegs).cmd = State.reset.cmd := rfl
@[simp] theorem State.resetRegs_res (s : State) : (s.resetRegs).res = State.reset.res := rfl
@[simp] theorem State.resetRegs_st (s : State) : (s.resetRegs).st = State.reset.st := rfl
@[simp] theorem State.resetRegs_att (s : State) : (s.resetRegs).att = State.reset.att := rfl
@[simp] theorem State.resetRegs_pcnt (s : State) : (s.resetRegs).pcnt = State.reset.pcnt := rfl
@[simp] theorem State.resetRegs_dcnt (s : State) : (s.resetRegs).dcnt = State.reset.dcnt := rfl
@[simp] theorem State.resetRegs_ccnt (s : State) : (s.resetRegs).ccnt = State.reset.ccnt := rfl
@[simp] theorem State.resetRegs_csw (s : State) : (s.resetRegs).csw = State.reset.csw := rfl
@[simp] theorem State.resetRegs_chOpen (s : State) : (s.resetRegs).chOpen = State.reset.chOpen := rfl
@[simp] theorem State.resetRegs_txBuf (s : State) : (s.resetRegs).txBuf = State.reset.txBuf := rfl
@[simp] theorem State.resetRegs_txLen (s : State) : (s.resetRegs).txLen = State.reset.txLen := rfl
@[simp] theorem State.resetRegs_rxBuf (s : State) : (s.resetRegs).rxBuf = State.reset.rxBuf := rfl
@[simp] theorem State.resetRegs_rxLen (s : State) : (s.resetRegs).rxLen = State.reset.rxLen := rfl
@[simp] theorem State.resetRegs_cfg (s : State) : (s.resetRegs).cfg = State.reset.cfg := rfl
@[simp] theorem State.resetRegs_params (s : State) : (s.resetRegs).params = s.params := rfl
@[simp] theorem State.resetRegs_hostIn (s : State) : (s.resetRegs).hostIn = s.hostIn := rfl
@[simp] theorem State.resetRegs_chScript (s : State) : (s.resetRegs).chScript = s.chScript := rfl
@[simp] theorem State.resetRegs_chDraws (s : State) : (s.resetRegs).chDraws = s.chDraws := rfl
@[simp] theorem State.resetRegs_log (s : State) : (s.resetRegs).log = s.log := rfl
@[simp] theorem State.resetRegs_mark (s : State) : (s.resetRegs).mark = s.mark := rfl
@[simp] theorem State.resetRegs_portAck (s : State) : (s.resetRegs).portAck = State.reset.portAck := rfl

@[simp] theorem State.raiseFailure_cmd (s : State) (close : Bool) (code : FailCode) :
    (s.raiseFailure close code).cmd = s.cmd := by cases close <;> rfl
@[simp] theorem State.raiseFailure_res (s : State) (close : Bool) (code : FailCode) :
    (s.raiseFailure close code).res = failRegs code := by cases close <;> rfl
@[simp] theorem State.raiseFailure_st (s : State) (close : Bool) (code : FailCode) :
    (s.raiseFailure close code).st = .idle := by cases close <;> rfl
@[simp] theorem State.raiseFailure_att (s : State) (close : Bool) (code : FailCode) :
    (s.raiseFailure close code).att = s.att := by cases close <;> rfl
@[simp] theorem State.raiseFailure_pcnt (s : State) (close : Bool) (code : FailCode) :
    (s.raiseFailure close code).pcnt = s.pcnt := by cases close <;> rfl
@[simp] theorem State.raiseFailure_dcnt (s : State) (close : Bool) (code : FailCode) :
    (s.raiseFailure close code).dcnt = s.dcnt := by cases close <;> rfl
@[simp] theorem State.raiseFailure_ccnt (s : State) (close : Bool) (code : FailCode) :
    (s.raiseFailure close code).ccnt = s.ccnt := by cases close <;> rfl
@[simp] theorem State.raiseFailure_csw (s : State) (close : Bool) (code : FailCode) :
    (s.raiseFailure close code).csw = s.csw := by cases close <;> rfl
@[simp] theorem State.raiseFailure_txBuf (s : State) (close : Bool) (code : FailCode) :
    (s.raiseFailure close code).txBuf = [] := by cases close <;> rfl
@[simp] theorem State.raiseFailure_txLen (s : State) (close : Bool) (code : FailCode) :
    (s.raiseFailure close code).txLen = 0 := by cases close <;> rfl
@[simp] theorem State.raiseFailure_rxBuf (s : State) (close : Bool) (code : FailCode) :
    (s.raiseFailure close code).rxBuf = [] := by cases close <;> rfl
@[simp] theorem State.raiseFailure_rxLen (s : State) (close : Bool) (code : FailCode) :
    (s.raiseFailure close code).rxLen = 0 := by cases close <;> rfl
@[simp] theorem State.raiseFailure_cfg (s : State) (close : Bool) (code : FailCode) :
    (s.raiseFailure close code).cfg = s.cfg := by cases close <;> rfl
@[simp] theorem State.raiseFailure_params (s : State) (close : Bool) (code : FailCode) :
    (s.raiseFailure close code).params = s.params := by cases close <;> rfl
@[simp] theorem State.raiseFailure_hostIn (s : State) (close : Bool) (code : FailCode) :
    (s.raiseFailure close code).hostIn = s.hostIn := by cases close <;> rfl
@[simp] theorem State.raiseFailure_mark (s : State) (close : Bool) (code : FailCode) :
    (s.raiseFailure close code).mark = s.mark := by cases close <;> rfl
@[simp] theorem State.raiseFailure_portAck (s : State) (close : Bool) (code : FailCode) :
    (s.raiseFailure close code).portAck = s.portAck := by cases close <;> rfl
@[simp] theorem State.raiseFailure_false_chOpen (s : State) (code : FailCode) : (s.raiseFailure false code).chOpen = s.chOpen := rfl
@[simp] theorem State.raiseFailure_true_chOpen (s : State) (code : FailCode) :
    (s.raiseFailure true code).chOpen = s.closeChannel.chOpen := rfl
@[simp] theorem State.raiseFailure_false_log (s : State) (code : FailCode) : (s.raiseFailure false code).log = s.log := rfl
@[simp] theorem State.raiseFailure_true_log (s : State) (code : FailCode) :
    (s.raiseFailure true code).log = s.closeChannel.log := rfl
@[simp] theorem State.raiseFailure_false_chScript (s : State) (code : FailCode) : (s.raiseFailure false code).chScript = s.chScript := rfl
@[simp] theorem State.raiseFailure_true_chScript (s : State) (code : FailCode) :
    (s.raiseFailure true code).chScript = s.closeChannel.chScript := rfl
@[simp] theorem State.raiseFailure_false_chDraws (s : State) (code : FailCode) : (s.raiseFailure false code).chDraws = s.chDraws := rfl
@[simp] theorem State.raiseFailure_true_chDraws (s : State) (code : FailCode) :
    (s.raiseFailure true code).chDraws = s.closeChannel.chDraws := rfl

end Sys2Proof.Machine
end

