-- ==== Sys2Proof/Laws/Draws.lean ====
section
/-! SUPPORT. The answers of the channel as the statements count them: what each request draws. -/

namespace Sys2Proof.Machine

/-- The next answer is the draw of index 0. -/
theorem State.nextDraw_eq_drawAt (s : State) : s.nextDraw = s.drawAt 0 := by
  unfold State.nextDraw State.drawAt
  cases s.chScript <;> simp

/-- A request uses up one draw. -/
@[simp] theorem State.drawAt_request (s : State) (r : Request) (i : Nat) :
    (s.request r).drawAt i = s.drawAt (i + 1) := by
  unfold State.drawAt State.request
  cases h : s.chScript with
  | nil => simp [Nat.add_comm, Nat.add_left_comm]
  | cons d ds =>
    cases ds[i]? <;> simp [Nat.add_comm, Nat.add_left_comm, *]

/-- A delay uses up none. -/
@[simp] theorem State.drawAt_delay (s : State) (t i : Nat) : (s.delay t).drawAt i = s.drawAt i := rfl

/-- What Sending and the polls look at. -/
theorem State.nextCount_eq (s : State) :
    s.nextCount = if (s.drawAt 0).error then none else some (s.drawAt 0).count := by
  rw [State.nextCount, State.nextDraw_eq_drawAt]

/-- What every request looks at. -/
theorem State.nextError_eq (s : State) : s.nextError = (s.drawAt 0).error := by
  rw [State.nextError, State.nextDraw_eq_drawAt]

end Sys2Proof.Machine
end

