-- ==== Sys2Proof/Laws/Memory.lean ====
section
/-! SUPPORT. The laws of the byte buffers: a read after a write, and the canonical form. -/

namespace Sys2Proof.Machine

@[simp] theorem Memory.read_nil (a : Nat) : Memory.read [] a = none := rfl

@[simp] theorem Memory.read_cons (k : Nat) (b : Byte) (m : Memory) (a : Nat) :
    Memory.read ((k, b) :: m) a = if k = a then some b else Memory.read m a := rfl

@[simp] theorem Memory.read_write_same (m : Memory) (a : Nat) (v : Byte) :
    Memory.read (Memory.write m a v) a = some v := by
  induction m with
  | nil => simp [Memory.write]
  | cons x m ih =>
    obtain ⟨k, b⟩ := x
    simp only [Memory.write]
    split
    · simp
    · split
      · simp
      · rename_i h
        simp [Ne.symm h, ih]

theorem Memory.read_write_other (m : Memory) (a i : Nat) (v : Byte) (h : i ≠ a) :
    Memory.read (Memory.write m a v) i = Memory.read m i := by
  induction m with
  | nil => simp [Memory.write, Ne.symm h]
  | cons x m ih =>
    obtain ⟨k, b⟩ := x
    simp only [Memory.write]
    split
    · simp [Ne.symm h]
    · split
      · rename_i hk
        simp [Ne.symm h, ← hk]
      · simp [ih]

/-- Every index a write lists is the one written or was listed before. -/
theorem Memory.mem_write {m : Memory} {a : Nat} {v : Byte} {x : Host.Cell} (h : x ∈ Memory.write m a v) :
    x = (a, v) ∨ x ∈ m := by
  induction m with
  | nil => simpa [Memory.write] using h
  | cons y m ih =>
    obtain ⟨k, b⟩ := y
    simp only [Memory.write] at h
    split at h
    · simpa using h
    · split at h
      · rcases List.mem_cons.mp h with h | h
        · exact Or.inl h
        · exact Or.inr (List.mem_cons_of_mem _ h)
      · rcases List.mem_cons.mp h with h | h
        · exact Or.inr (List.mem_cons.mpr (Or.inl h))
        · rcases ih h with h | h
          · exact Or.inl h
          · exact Or.inr (List.mem_cons_of_mem _ h)

theorem Memory.wf_nil : Memory.wf [] := List.Pairwise.nil

theorem Memory.wf_write {m : Memory} (a : Nat) (v : Byte) (h : Memory.wf m) : Memory.wf (Memory.write m a v) := by
  induction m with
  | nil => simp [Memory.write]
  | cons x m ih =>
    obtain ⟨k, b⟩ := x
    have hc := List.pairwise_cons.mp h
    simp only [Memory.write]
    split
    · rename_i hk
      refine List.pairwise_cons.mpr ⟨?_, h⟩
      intro y hy
      rcases List.mem_cons.mp hy with rfl | hy
      · exact hk
      · exact Nat.lt_trans hk (hc.1 y hy)
    · split
      · rename_i hk
        exact List.pairwise_cons.mpr ⟨fun y hy => hk ▸ hc.1 y hy, hc.2⟩
      · refine List.pairwise_cons.mpr ⟨?_, ih hc.2⟩
        intro y hy
        rcases Memory.mem_write hy with rfl | hy
        · show k < a
          omega
        · exact hc.1 y hy

theorem Memory.wf_writeBytes {m : Memory} (a : Nat) (bs : Bytes) (h : Memory.wf m) :
    Memory.wf (Memory.writeBytes m a bs) := by
  induction bs generalizing m a with
  | nil => exact h
  | cons b bs ih => exact ih (a + 1) (Memory.wf_write a b h)

/-- What a byte reads as after a string was written at `a`. -/
theorem Memory.read_writeBytes (m : Memory) (a : Nat) (bs : Bytes) (i : Nat) :
    Memory.read (Memory.writeBytes m a bs) i =
      if a ≤ i ∧ i < a + bs.length then bs[i - a]? else Memory.read m i := by
  induction bs generalizing m a with
  | nil => simp [Memory.writeBytes]
  | cons b bs ih =>
    simp only [Memory.writeBytes, ih, List.length_cons]
    by_cases h1 : i = a
    · subst h1
      simp
    · by_cases h2 : a + 1 ≤ i ∧ i < a + 1 + bs.length
      · rw [if_pos h2, if_pos (by omega), show i - a = (i - (a + 1)) + 1 by omega]
        simp
      · rw [if_neg h2, if_neg (by omega), Memory.read_write_other _ _ _ _ h1]

/-- What a slice that has a value is. -/
theorem Memory.readBytes_eq_some {m : Memory} {a n : Nat} {bs : Bytes} :
    Memory.readBytes m a n = some bs ↔ bs.length = n ∧ ∀ i, i < n → Memory.read m (a + i) = bs[i]? := by
  induction n generalizing a bs with
  | zero =>
    simp only [Memory.readBytes, Option.some.injEq]
    exact ⟨fun h => by subst h; simp, fun h => (List.length_eq_zero_iff.mp h.1).symm⟩
  | succ n ih =>
    simp only [Memory.readBytes]
    constructor
    · intro h
      split at h
      · rename_i b cs hb hcs
        obtain ⟨hl, hr⟩ := ih.mp hcs
        obtain rfl : b :: cs = bs := by simpa using h
        refine ⟨by simp [hl], fun i hi => ?_⟩
        cases i with
        | zero => simpa using hb
        | succ i =>
          have := hr i (by omega)
          simpa [Nat.add_assoc, Nat.add_comm 1 i] using this
      · cases h
    · rintro ⟨hl, hr⟩
      cases bs with
      | nil => simp at hl
      | cons b cs =>
        have h0 : Memory.read m a = some b := by simpa using hr 0 (by omega)
        have hcs : Memory.readBytes m (a + 1) n = some cs := by
          refine ih.mpr ⟨by simpa using hl, fun i hi => ?_⟩
          have := hr (i + 1) (by omega)
          simpa [Nat.add_assoc, Nat.add_comm 1 i] using this
        simp [h0, hcs]

@[simp] theorem Memory.readBytes_writeBytes (m : Memory) (a : Nat) (bs : Bytes) :
    Memory.readBytes (Memory.writeBytes m a bs) a bs.length = some bs := by
  refine Memory.readBytes_eq_some.mpr ⟨rfl, fun i hi => ?_⟩
  rw [Memory.read_writeBytes, if_pos (by omega)]
  simp

/-- A slice has a value when each of its bytes has. -/
theorem Memory.readBytes_isSome {m : Memory} {a n : Nat}
    (h : ∀ i, i < n → (Memory.read m (a + i)).isSome = true) : ∃ bs, Memory.readBytes m a n = some bs := by
  induction n generalizing a with
  | zero => exact ⟨[], rfl⟩
  | succ n ih =>
    obtain ⟨b, hb⟩ := Option.isSome_iff_exists.mp (h 0 (by omega))
    obtain ⟨cs, hcs⟩ := ih (a := a + 1) fun i hi => by
      have := h (i + 1) (by omega)
      simpa [Nat.add_assoc, Nat.add_comm 1 i] using this
    exact ⟨b :: cs, by simp only [Memory.readBytes, show Memory.read m a = some b from hb, hcs]⟩

/-- Appending one byte at the end of a slice. -/
theorem Memory.readBytes_write_end {m : Memory} {n : Nat} {bs : Bytes} (v : Byte)
    (h : Memory.readBytes m 0 n = some bs) : Memory.readBytes (Memory.write m n v) 0 (n + 1) = some (bs ++ [v]) := by
  obtain ⟨hl, hr⟩ := Memory.readBytes_eq_some.mp h
  refine Memory.readBytes_eq_some.mpr ⟨by simp [hl], fun i hi => ?_⟩
  by_cases hn : i = n
  · subst hn
    simp [← hl]
  · rw [Nat.zero_add, Memory.read_write_other _ _ _ _ hn, List.getElem?_append_left (by omega)]
    simpa using hr i (by omega)

end Sys2Proof.Machine
end

