-- ==== Sys2Proof/Laws/Ops.lean ====
section
/-! SUPPORT. What each shared operation can do, said once. -/

namespace Sys2Proof.Machine

theorem State.busy_iff (s : State) : s.busy = true ↔ s.st ≠ .idle := by simp [State.busy]

theorem State.busy_false_iff (s : State) : s.busy = false ↔ s.st = .idle := by simp [State.busy]

/-- In Idle a command is accepted and run. -/
theorem onAccept_idle (c : Command) (s : State) (run : State → Result) (h : s.st = .idle) :
    onAccept c s run = run (s.acceptCommand c) := by simp [onAccept, State.busy, h]

/-- Outside Idle a command is rejected. -/
theorem onAccept_busy (c : Command) (s : State) (run : State → Result) (h : s.st ≠ .idle) :
    onAccept c s run = .next s.rejectCommand := by simp [onAccept, State.busy, h]

/-- All the acceptance of a command can do. -/
theorem onAccept_cases (c : Command) (s : State) (run : State → Result) :
    (s.st ≠ .idle ∧ onAccept c s run = .next s.rejectCommand) ∨
      (s.st = .idle ∧ onAccept c s run = run (s.acceptCommand c)) := by
  by_cases h : s.st = .idle
  · exact Or.inr ⟨h, onAccept_idle c s run h⟩
  · exact Or.inl ⟨h, onAccept_busy c s run h⟩

@[simp] theorem State.finishUnit_ok (s : State) (v : Value) : s.finishUnit (.ok v) = s.deliverUnit v.tag v.data := rfl

@[simp] theorem State.finishUnit_fail (s : State) (c : FailCode) : s.finishUnit (.fail c) = s.raiseFailure false c := rfl

/-- What a failure delivered with a ChClose does: one request more, then the failure. -/
theorem State.raiseFailure_true_eq (s : State) (c : FailCode) :
    s.raiseFailure true c = s.closeChannel.raiseFailure false c := rfl

/-- All storing a frame can do: it is stored from index 0 where it fits. -/
theorem State.storeFrame_eq_some {s t : State} {f : Bytes} : s.storeFrame f = some t ↔
    f.length ≤ txCap s.params ∧ t = { s with txBuf := Memory.writeBytes [] 0 f, txLen := f.length } := by
  unfold State.storeFrame
  split
  · rename_i h
    simp [h, eq_comm]
  · rename_i h
    simp [h]

/-- A stored frame is what Sending reads. -/
theorem State.frame_of_storeFrame {s t : State} {f : Bytes} (h : s.storeFrame f = some t) : t.frame = some f := by
  obtain ⟨-, rfl⟩ := State.storeFrame_eq_some.mp h
  exact Memory.readBytes_writeBytes [] 0 f

/-- All appending to the capture can do: the byte goes to index RXLEN where there is room. -/
theorem State.appendRx_eq_some {s t : State} {b : Byte} : s.appendRx b = some t ↔
    s.rxLen < rxCap s.params ∧ t = { s with rxBuf := Memory.write s.rxBuf s.rxLen b, rxLen := s.rxLen + 1 } := by
  unfold State.appendRx
  split
  · rename_i h
    simp [h, eq_comm]
  · rename_i h
    simp [h]

/-- The capture after an append. -/
theorem State.capture_of_appendRx {s t : State} {b : Byte} {buf : Bytes} (h : s.appendRx b = some t)
    (hc : s.capture = some buf) : t.capture = some (buf ++ [b]) := by
  obtain ⟨-, rfl⟩ := State.appendRx_eq_some.mp h
  exact Memory.readBytes_write_end b hc

/-- All the opening of the channel can do: Sending, or the failure CH_OPEN. -/
theorem State.openChannel_cases (s : State) :
    (s.nextError = true ∧ s.openChannel = (s.request s.openRequest).raiseFailure true .chOpen) ∨
      (s.nextError = false ∧ s.openChannel = (s.request s.openRequest).channelOpened.enterSending) := by
  unfold State.openChannel
  cases h : s.nextError <;> simp

/-- All the acceptance of a transaction can do: a failure of the checks, a failure of the builder, or a frame
stored and the channel opened. -/
theorem State.beginTransaction_eq_next {s t : State} {k : Kind} : s.beginTransaction k = .next t ↔
    (∃ c, acceptFailure s.params k s.cmd.operands = some c ∧ t = s.startTransaction.raiseFailure false c) ∨
    (acceptFailure s.params k s.cmd.operands = none ∧
      ((∃ c, build s.params k s.cmd.operands = .fail c ∧ t = s.startTransaction.raiseFailure false c) ∨
       (∃ f u, build s.params k s.cmd.operands = .ok f ∧ s.startTransaction.storeFrame f = some u ∧
          t = u.openChannel))) := by
  unfold State.beginTransaction State.launch
  simp only [State.startTransaction_params, State.startTransaction_cmd]
  constructor
  · intro h
    split at h
    · rename_i c hc
      exact Or.inl ⟨c, hc, (Host.Outcome.next.inj h).symm⟩
    · rename_i hc
      refine Or.inr ⟨hc, ?_⟩
      split at h
      · rename_i c hb
        exact Or.inl ⟨c, hb, (Host.Outcome.next.inj h).symm⟩
      · rename_i f hb
        split at h
        · cases h
        · rename_i u hu
          exact Or.inr ⟨f, u, hb, hu, (Host.Outcome.next.inj h).symm⟩
  · rintro (⟨c, hc, rfl⟩ | ⟨hc, ⟨c, hb, rfl⟩ | ⟨f, u, hb, hu, rfl⟩⟩)
    · simp [hc]
    · simp [hc, hb]
    · simp [hc, hb, hu]

/-- All the next attempt can be: Sending again, or Exhausted. -/
theorem State.nextAttempt_cases (s : State) :
    (s.att < maxAttempts ∧ s.nextAttempt = s.enterSending) ∨
      (maxAttempts ≤ s.att ∧ s.nextAttempt = { s with st := .exhausted }) := by
  unfold State.nextAttempt
  by_cases h : s.att < maxAttempts
  · exact Or.inl ⟨h, by simp [h]⟩
  · exact Or.inr ⟨by omega, by simp [h]⟩

/-- The sizes the builder can answer. -/
theorem length_hexenc (b : Bytes) : (hexenc b).length = 2 * b.length := by
  induction b with
  | nil => rfl
  | cons x b ih => simp [hexenc, hexPair, ih]; omega

theorem length_framed (c d : Byte) (fields : Bytes) : (framed c d fields).length = 2 * fields.length + 5 := by
  simp [framed, length_hexenc]

theorem length_valueBytes (o : Operands) : (valueBytes o).length = o.len := by
  simp [valueBytes]

theorem length_brev {p : Params} {b c : Bytes} (h : brev p b = some c) : c.length = b.length := by
  unfold brev at h
  split at h
  · obtain rfl := Option.some.inj h
    simp
  · cases h

theorem length_wireValue {p : Params} {o : Operands} {w : Bytes} (h : wireValue p o = some w) : w.length = o.len := by
  unfold wireValue at h
  split at h
  · rw [length_brev h, length_valueBytes]
  · obtain rfl := Option.some.inj h
    exact length_valueBytes o

/-- The length of a built frame: 3, 11 or 11 + 2 x LEN by its kind (rule R102). -/
theorem length_build {p : Params} {k : Kind} {o : Operands} {f : Bytes} (h : build p k o = .ok f) :
    f.length = match k with
      | .ping => 3
      | .restart => 3
      | .read => 11
      | .write => replyLen o.len := by
  cases k with
  | ping => cases h; rfl
  | restart => cases h; rfl
  | read => cases h; simp [length_framed, wireReg]
  | write =>
    simp only [build] at h
    split at h
    · rename_i w hw
      cases h
      simp [length_framed, wireReg, length_wireValue hw, replyLen]
      omega
    · cases h

/-- A frame of a command that passed the acceptance checks fits TXBUF (rules R37, R113). -/
theorem length_build_le {p : Params} {k : Kind} {o : Operands} {f : Bytes} (hc : acceptFailure p k o = none)
    (h : build p k o = .ok f) : f.length ≤ txCap p := by
  have hl := length_build h
  cases k with
  | ping => simp only at hl; unfold txCap; omega
  | restart => simp only at hl; unfold txCap; omega
  | read => simp only at hl; unfold txCap; omega
  | write =>
    simp only [acceptFailure, fieldFailure] at hc
    split at hc
    · cases hc
    · split at hc
      · cases hc
      · simp only [replyLen] at hl
        unfold txCap
        omega

end Sys2Proof.Machine
end

