-- ==== Sys2Proof/Laws/Engine.lean ====
section
/-! SUPPORT. What each engine step can do, said once: if it answers a next state, then one of these cases holds. -/

namespace Sys2Proof.Machine

/-- A channel error always answers a next state. -/
theorem State.channelError_eq (s : State) (c : FailCode) : s.channelError c = .next (s.raiseFailure s.chOpen c) := rfl

/-- All Sending can do. -/
theorem sendStep_eq_next {k : Kind} {s t : State} (h : sendStep k s = .next t) : ∃ f, s.frame = some f ∧
    ((s.nextCount = none ∧ t = (s.request (.chWrite f)).raiseFailure s.chOpen .chWrite) ∨
     (∃ n, s.nextCount = some n ∧ n ≠ s.txLen ∧ t = (s.request (.chWrite f)).nextAttempt) ∨
     (s.nextCount = some s.txLen ∧ k = .restart ∧ t = (s.request (.chWrite f)).finishRestart) ∨
     (s.nextCount = some s.txLen ∧ k ≠ .restart ∧ t = { s.request (.chWrite f) with st := .awaitingData })) := by
  unfold sendStep at h
  split at h
  · cases h
  · rename_i f hf
    refine ⟨f, hf, ?_⟩
    split at h
    · rename_i hn
      exact Or.inl ⟨hn, (Host.Outcome.next.inj h).symm⟩
    · rename_i n hn
      split at h
      · rename_i hne
        exact Or.inr (Or.inl ⟨n, hn, hne, (Host.Outcome.next.inj h).symm⟩)
      · rename_i heq
        have he : n = s.txLen := by omega
        subst he
        split at h
        · rename_i hk
          exact Or.inr (Or.inr (Or.inl ⟨hn, hk, (Host.Outcome.next.inj h).symm⟩))
        · rename_i hk
          exact Or.inr (Or.inr (Or.inr ⟨hn, hk, (Host.Outcome.next.inj h).symm⟩))

/-- All AwaitingData can do. -/
theorem pollStep_eq_next {s t : State} (h : pollStep s = .next t) :
    (s.nextCount = none ∧ t = (s.request .chAvail).raiseFailure s.chOpen .chAvail) ∨
    (s.nextCount = some 0 ∧ s.pcnt + 1 < s.params.nPoll ∧
      t = { (s.request .chAvail).delay s.params.tPoll with pcnt := s.pcnt + 1 }) ∨
    (s.nextCount = some 0 ∧ s.params.nPoll ≤ s.pcnt + 1 ∧
      t = { s.request .chAvail with pcnt := s.pcnt + 1, st := .classifying }) ∨
    (∃ n, s.nextCount = some (n + 1) ∧ t = { s.request .chAvail with st := .draining }) := by
  unfold pollStep at h
  split at h
  · rename_i hn
    exact Or.inl ⟨hn, (Host.Outcome.next.inj h).symm⟩
  · rename_i hn
    have := (Host.Outcome.next.inj h).symm
    unfold State.pollFailed at this
    split at this
    · rename_i hp
      exact Or.inr (Or.inl ⟨hn, hp, this⟩)
    · rename_i hp
      refine Or.inr (Or.inr (Or.inl ⟨hn, ?_, this⟩))
      simp only [State.request_pcnt, State.request_params] at hp
      omega
  · rename_i n hn
    exact Or.inr (Or.inr (Or.inr ⟨n, hn, (Host.Outcome.next.inj h).symm⟩))

/-- All the read of a drain iteration can do. -/
theorem drainRead_eq_next {s t : State} (h : drainRead s = .next t) :
    (s.nextError = true ∧ t = (s.request .chReadByte).raiseFailure s.chOpen .chRead) ∨
    (s.nextError = false ∧ s.nextDraw.byte = none ∧ t = { s.request .chReadByte with st := .classifying }) ∨
    (∃ b u, s.nextError = false ∧ s.nextDraw.byte = some b ∧ (s.request .chReadByte).appendRx b = some u ∧
      t = { u.delay u.params.tPace with dcnt := u.dcnt + 1 }) := by
  unfold drainRead at h
  split at h
  · rename_i he
    exact Or.inl ⟨he, (Host.Outcome.next.inj h).symm⟩
  · rename_i he
    have he : s.nextError = false := by simpa using he
    split at h
    · rename_i hb
      exact Or.inr (Or.inl ⟨he, hb, (Host.Outcome.next.inj h).symm⟩)
    · rename_i b hb
      split at h
      · cases h
      · rename_i u hu
        exact Or.inr (Or.inr ⟨b, u, he, hb, hu, (Host.Outcome.next.inj h).symm⟩)

/-- All Draining can do. -/
theorem drainStep_eq_next {s t : State} (h : drainStep s = .next t) :
    (s.params.nDrain ≤ s.dcnt ∧ t = { s with st := .classifying }) ∨
    (s.dcnt < s.params.nDrain ∧
      ((s.nextCount = none ∧ t = (s.request .chAvail).raiseFailure s.chOpen .chAvail) ∨
       (s.nextCount = some 0 ∧ t = { s.request .chAvail with st := .classifying }) ∨
       (∃ n, s.nextCount = some (n + 1) ∧ drainRead (s.request .chAvail) = .next t))) := by
  unfold drainStep at h
  split at h
  · rename_i hd
    exact Or.inl ⟨hd, (Host.Outcome.next.inj h).symm⟩
  · rename_i hd
    refine Or.inr ⟨by omega, ?_⟩
    split at h
    · rename_i hn
      exact Or.inl ⟨hn, (Host.Outcome.next.inj h).symm⟩
    · rename_i hn
      exact Or.inr (Or.inl ⟨hn, (Host.Outcome.next.inj h).symm⟩)
    · rename_i n hn
      exact Or.inr (Or.inr ⟨n, hn, h⟩)

/-- All Classifying can do. -/
theorem classifyStep_eq_next {k : Kind} {s t : State} (h : classifyStep k s = .next t) : ∃ buf, s.capture = some buf ∧
    ((captureAccepted s.params k s.cmd.operands.len buf = true ∧ t = { s with st := .accepted }) ∨
     (captureAccepted s.params k s.cmd.operands.len buf = false ∧ t = { s with st := .noisyRetry })) := by
  unfold classifyStep at h
  split at h
  · cases h
  · rename_i buf hb
    refine ⟨buf, hb, ?_⟩
    have := (Host.Outcome.next.inj h).symm
    cases hc : captureAccepted s.params k s.cmd.operands.len buf
    · exact Or.inr ⟨rfl, by simpa [hc] using this⟩
    · exact Or.inl ⟨rfl, by simpa [hc] using this⟩

/-- The state after the cancel write of the recovery sequence. -/
def State.cancelled (s : State) : State := { s with ccnt := s.ccnt + 1 }.request (.chWrite (cancelBytes s.params))

/-- The state after the discarded read and the first pause of the recovery sequence. -/
def State.discarded (s : State) : State := (s.request .chReadByte).delay s.params.tPause1

/-- The state after the flush and the second pause of the recovery sequence. -/
def State.flushed (s : State) : State := (s.request .chFlushIn).delay s.params.tPause2

/-- All NoisyRetry can do: an error at one of its three requests, or the whole sequence and the next attempt. -/
theorem recoverStep_eq_next {s t : State} (h : recoverStep s = .next t) :
    (s.nextError = true ∧ t = s.cancelled.raiseFailure s.chOpen .chWrite) ∨
    (s.nextError = false ∧ s.cancelled.nextError = true ∧
      t = (s.cancelled.request .chReadByte).raiseFailure s.chOpen .chRead) ∨
    (s.nextError = false ∧ s.cancelled.nextError = false ∧ s.cancelled.discarded.nextError = true ∧
      t = (s.cancelled.discarded.request .chFlushIn).raiseFailure s.chOpen .chFlush) ∨
    (s.nextError = false ∧ s.cancelled.nextError = false ∧ s.cancelled.discarded.nextError = false ∧
      t = s.cancelled.discarded.flushed.nextAttempt) := by
  unfold recoverStep at h
  split at h
  · rename_i he
    exact Or.inl ⟨he, (Host.Outcome.next.inj h).symm⟩
  · rename_i he
    have he : s.nextError = false := by simpa using he
    refine Or.inr ?_
    unfold recoverRead at h
    split at h
    · rename_i h1
      exact Or.inl ⟨he, h1, (Host.Outcome.next.inj h).symm⟩
    · rename_i h1
      have h1 : s.cancelled.nextError = false := by simpa [State.cancelled] using h1
      refine Or.inr ?_
      unfold recoverFlush at h
      split at h
      · rename_i h2
        exact Or.inl ⟨he, h1, h2, (Host.Outcome.next.inj h).symm⟩
      · rename_i h2
        have h2 : s.cancelled.discarded.nextError = false := by
          simpa [State.cancelled, State.discarded] using h2
        exact Or.inr ⟨he, h1, h2, (Host.Outcome.next.inj h).symm⟩

/-- All Exhausted can do. -/
theorem exhaustedStep_eq_next {k : Kind} {s t : State} (h : exhaustedStep k s = .next t) :
    (k = .restart ∧ t = s.raiseFailure s.chOpen .writeShort) ∨ (k ≠ .restart ∧ t = { s with st := .parsed }) := by
  unfold exhaustedStep at h
  split at h
  · rename_i hk
    exact Or.inl ⟨hk, (Host.Outcome.next.inj h).symm⟩
  · rename_i hk
    exact Or.inr ⟨hk, (Host.Outcome.next.inj h).symm⟩

/-- All the end of Parsed can do. -/
theorem State.finishParsed_cases (s : State) (out : Verdict Value) :
    (∃ c, out = .fail c ∧ s.finishParsed out = s.closeChannel.raiseFailure false c) ∨
    (∃ v, out = .ok v ∧ s.nextError = true ∧ s.finishParsed out = s.closeChannel.raiseFailure false .chClose) ∨
    (∃ v, out = .ok v ∧ s.nextError = false ∧ s.finishParsed out = s.closeChannel.deliverOk v) := by
  cases out with
  | fail c => exact Or.inl ⟨c, rfl, rfl⟩
  | ok v =>
    refine Or.inr ?_
    cases h : s.nextError
    · exact Or.inr ⟨v, rfl, rfl, by simp [State.finishParsed, h]⟩
    · exact Or.inl ⟨v, rfl, rfl, by simp [State.finishParsed, h]⟩

/-- All the end of a RESTART can do. -/
theorem State.finishRestart_cases (s : State) :
    (s.nextError = true ∧ s.finishRestart = s.closeChannel.raiseFailure false .chClose) ∨
    (s.nextError = false ∧ s.finishRestart = s.closeChannel.deliverOk { tag := .void, data := [] }) := by
  cases h : s.nextError
  · exact Or.inr ⟨rfl, by simp [State.finishRestart, h]⟩
  · exact Or.inl ⟨rfl, by simp [State.finishRestart, h]⟩

/-- All Parsed can do. -/
theorem parsedStep_eq_next {k : Kind} {s t : State} (h : parsedStep k s = .next t) : ∃ buf, s.capture = some buf ∧
    t = (s.noteCsw (parse s.params k buf s.cmd.operands).csw).finishParsed (parse s.params k buf s.cmd.operands).out := by
  unfold parsedStep at h
  split at h
  · cases h
  · rename_i buf hb
    exact ⟨buf, hb, (Host.Outcome.next.inj h).symm⟩

/-- All the engine can do: nothing in Idle, else the step of the transaction OPR names. -/
theorem engineStep_eq_next {s t : State} (h : engineStep s = .next t) :
    (s.st = .idle ∧ t = s) ∨ (s.st ≠ .idle ∧ ∃ k, Kind.ofOpr s.cmd.opr = some k ∧ transactionStep k s = .next t) := by
  unfold engineStep at h
  split at h
  · rename_i hb
    refine Or.inr ⟨(State.busy_iff s).mp hb, ?_⟩
    split at h
    · cases h
    · rename_i k hk
      exact ⟨k, hk, h⟩
  · rename_i hb
    exact Or.inl ⟨(State.busy_false_iff s).mp (by simpa using hb), (Host.Outcome.next.inj h).symm⟩

/-- All a step that RESET may cut can do. -/
theorem withReset_eq_next {reset : Option Nat} {s t : State} {r : Result} (h : withReset reset s r = .next t) :
    (reset = none ∧ r = .next t) ∨ (∃ k u, reset = some k ∧ r = .next u ∧ t = resetDuring k s u) ∨
    (∃ k, reset = some k ∧ (∀ u, r ≠ .next u) ∧ t = s.resetRegs) := by
  unfold withReset at h
  split at h
  · exact Or.inl ⟨rfl, h⟩
  · rename_i k
    refine Or.inr ?_
    split at h
    · rename_i u
      exact Or.inl ⟨k, u, rfl, rfl, (Host.Outcome.next.inj h).symm⟩
    · exact Or.inr ⟨k, rfl, by simp, (Host.Outcome.next.inj h).symm⟩
    · exact Or.inr ⟨k, rfl, by simp, (Host.Outcome.next.inj h).symm⟩

/-- A configuration write: performed in Idle, ignored otherwise. -/
theorem State.writeConfig_cases (s : State) (c : ConfigRegs) :
    (s.st = .idle ∧ s.writeConfig c = { s with cfg := c }) ∨ (s.st ≠ .idle ∧ s.writeConfig c = s) := by
  unfold State.writeConfig
  by_cases h : s.st = .idle
  · exact Or.inl ⟨h, by simp [State.busy, h]⟩
  · exact Or.inr ⟨h, by simp [State.busy, h]⟩

/-- All rule R326's precondition can do to a next state: it stands where the block is configured or no channel request
was made. -/
theorem requireConfigured_eq_next {s t : State} {r : Result} :
    requireConfigured s r = .next t ↔ r = .next t ∧ (s.configured = true ∨ t.log.length = s.log.length) := by
  unfold requireConfigured
  split
  · split <;> rename_i h
    · simp only [Host.Outcome.next.injEq, iff_self_and]
      rintro rfl
      simpa using h
    · simp only [reduceCtorEq, Host.Outcome.next.injEq, false_iff, not_and]
      rintro rfl
      simpa using h
  · simp
  · simp

/-- All the host's action can do. -/
theorem hostStep_eq_next {a : HostAct} {s t : State} (h : hostStep a s = .next t) :
    (a = .wait ∧ engineStep s = .next t) ∨
    (∃ c i, a = .command c ∧ decode s.params c = .ok i ∧ exec i s = .next t ∧
      (s.configured = true ∨ t.log.length = s.log.length)) ∨
    (∃ cfg, t = s.writeConfig cfg) := by
  cases a with
  | wait => exact Or.inl ⟨rfl, h⟩
  | command c =>
    refine Or.inr (Or.inl ?_)
    simp only [hostStep, presentCommand] at h
    split at h
    · cases h
    · rename_i i hi
      exact ⟨c, i, rfl, hi, requireConfigured_eq_next.mp h⟩
  | writeChId v =>
    refine Or.inr (Or.inr ?_)
    simp only [hostStep, writeChId] at h
    split at h
    · exact ⟨_, (Host.Outcome.next.inj h).symm⟩
    · cases h
  | writeBaud v => exact Or.inr (Or.inr ⟨_, (Host.Outcome.next.inj h).symm⟩)
  | writeTimeout v => exact Or.inr (Or.inr ⟨_, (Host.Outcome.next.inj h).symm⟩)
  | writeDebug v => exact Or.inr (Or.inr ⟨_, (Host.Outcome.next.inj h).symm⟩)

/-- All a step can do: the engine's step, or the outside's next input. -/
theorem step_eq_next {s t : State} (h : step s = .next t) :
    (s.hostIn = [] ∧ engineStep s = .next t) ∨
    (∃ x rest, s.hostIn = x :: rest ∧
      withReset x.reset { s with hostIn := rest } (hostStep x.act { s with hostIn := rest }) = .next t) := by
  unfold step machineStep at h
  split at h
  · rename_i hh
    exact Or.inl ⟨hh, h⟩
  · rename_i x rest hh
    exact Or.inr ⟨x, rest, hh, h⟩

/-- The three shapes of an operation presented: rejected; a result or a failure at once; the acceptance of a
transaction. -/
def ExecShape (i : Instr) (s : State) : Prop :=
  (s.st ≠ .idle ∧ exec i s = .next s.rejectCommand) ∨
  (s.st = .idle ∧ ∃ m v, exec i s = .next (((s.acceptCommand (encode i)).noteCsw m).finishUnit v)) ∨
  (s.st = .idle ∧ ∃ k, Kind.ofOpr i.opr = some k ∧ exec i s = (s.acceptCommand (encode i)).beginTransaction k)

/-- The shape of a unit operation that leaves CSW alone. -/
theorem execShape_unit {i : Instr} {s : State} (v : State → Verdict Value)
    (he : exec i s = onAccept (encode i) s fun t => .next (t.finishUnit (v t))) : ExecShape i s := by
  rcases onAccept_cases (encode i) s (fun t => .next (t.finishUnit (v t))) with ⟨hb, h⟩ | ⟨hi, h⟩
  · exact Or.inl ⟨hb, he.trans h⟩
  · refine Or.inr (Or.inl ⟨hi, false, v (s.acceptCommand (encode i)), ?_⟩)
    rw [he, h]
    rfl

/-- The shape of a transaction operation. -/
theorem execShape_transaction {i : Instr} {s : State} (k : Kind) (hk : Kind.ofOpr i.opr = some k)
    (he : exec i s = onAccept (encode i) s fun t => t.beginTransaction k) : ExecShape i s := by
  rcases onAccept_cases (encode i) s (fun t => t.beginTransaction k) with ⟨hb, h⟩ | ⟨hi, h⟩
  · exact Or.inl ⟨hb, he.trans h⟩
  · exact Or.inr (Or.inr ⟨hi, k, hk, he.trans h⟩)

/-- All an operation can do when it is presented. -/
theorem exec_shape (i : Instr) (s : State) : ExecShape i s := by
  cases i with
  | hexenc o => exact execShape_unit (fun t => .ok { tag := .bytes, data := hexenc t.cmd.operands.abuf }) rfl
  | hexdec o => exact execShape_unit (fun t => hexdecValue t.cmd.operands.abuf) rfl
  | twosc o => exact execShape_unit (fun t => twoscValue t.params t.cmd.operands) rfl
  | touns o => exact execShape_unit (fun t => tounsValue t.params t.cmd.operands) rfl
  | brev o => exact execShape_unit (fun t => brevValue t.params t.cmd.operands.abuf) rfl
  | csum o => exact execShape_unit (fun t => .ok { tag := .bytes, data := [checksum t.cmd.operands.abuf] }) rfl
  | csumchk o => exact execShape_unit (fun t => .ok { tag := .bool, data := [boolByte (csumchk t.cmd.operands.abuf t.cmd.operands.ac)] }) rfl
  | build o => exact execShape_unit (fun t => buildValue t.params t.cmd.operands) rfl
  | parse o =>
    rcases onAccept_cases (encode (.parse o)) s (fun t => .next ((t.noteCsw (parseOperand t.params t.cmd.operands).csw).finishUnit
      (parseOperand t.params t.cmd.operands).out)) with ⟨hb, h⟩ | ⟨hi, h⟩
    · exact Or.inl ⟨hb, h⟩
    · exact Or.inr (Or.inl ⟨hi, _, _, h⟩)
  | ping o => exact execShape_transaction .ping rfl rfl
  | restart o => exact execShape_transaction .restart rfl rfl
  | read o => exact execShape_transaction .read rfl rfl
  | write o => exact execShape_transaction .write rfl rfl
  | reserved13 o => exact execShape_unit (fun t => .fail .illegalOp) rfl
  | reserved14 o => exact execShape_unit (fun t => .fail .illegalOp) rfl
  | reserved15 o => exact execShape_unit (fun t => .fail .illegalOp) rfl

end Sys2Proof.Machine
end

