-- ==== Sys2Proof/Laws/PerInstr.lean ====
section
/-! SUPPORT. The family of statements made for every operation: what the encoder writes for a well-formed
operation, the decoder reads back. -/

namespace Sys2Proof.Laws

/-- The decoder reads back what the encoder writes, for every build of the block. -/
def RoundTrip.Statement (i : Instr) : Prop := ∀ p, i.wellFormed p = true → decode p (encode i) = .ok i

/-- A well-formed operation's operands pass every check of the decoder. -/
theorem decode_of_wellFormed (p : Params) (c : Command) (h : c.operands.wellFormed p = true) :
    decode p c = .ok (selectInstr c.opr c.operands) := by
  simp only [Operands.wellFormed, Bool.and_eq_true] at h
  simp [decode, h]

theorem RoundTrip.hexenc (o : Operands) : RoundTrip.Statement (.hexenc o) := fun p h => decode_of_wellFormed p _ h

theorem RoundTrip.hexdec (o : Operands) : RoundTrip.Statement (.hexdec o) := fun p h => decode_of_wellFormed p _ h

theorem RoundTrip.twosc (o : Operands) : RoundTrip.Statement (.twosc o) := fun p h => decode_of_wellFormed p _ h

theorem RoundTrip.touns (o : Operands) : RoundTrip.Statement (.touns o) := fun p h => decode_of_wellFormed p _ h

theorem RoundTrip.brev (o : Operands) : RoundTrip.Statement (.brev o) := fun p h => decode_of_wellFormed p _ h

theorem RoundTrip.csum (o : Operands) : RoundTrip.Statement (.csum o) := fun p h => decode_of_wellFormed p _ h

theorem RoundTrip.csumchk (o : Operands) : RoundTrip.Statement (.csumchk o) := fun p h => decode_of_wellFormed p _ h

theorem RoundTrip.build (o : Operands) : RoundTrip.Statement (.build o) := fun p h => decode_of_wellFormed p _ h

theorem RoundTrip.parse (o : Operands) : RoundTrip.Statement (.parse o) := fun p h => decode_of_wellFormed p _ h

theorem RoundTrip.ping (o : Operands) : RoundTrip.Statement (.ping o) := fun p h => decode_of_wellFormed p _ h

theorem RoundTrip.restart (o : Operands) : RoundTrip.Statement (.restart o) := fun p h => decode_of_wellFormed p _ h

theorem RoundTrip.read (o : Operands) : RoundTrip.Statement (.read o) := fun p h => decode_of_wellFormed p _ h

theorem RoundTrip.write (o : Operands) : RoundTrip.Statement (.write o) := fun p h => decode_of_wellFormed p _ h

theorem RoundTrip.reserved13 (o : Operands) : RoundTrip.Statement (.reserved13 o) := fun p h => decode_of_wellFormed p _ h

theorem RoundTrip.reserved14 (o : Operands) : RoundTrip.Statement (.reserved14 o) := fun p h => decode_of_wellFormed p _ h

theorem RoundTrip.reserved15 (o : Operands) : RoundTrip.Statement (.reserved15 o) := fun p h => decode_of_wellFormed p _ h

end Sys2Proof.Laws
end

