-- ==== Sys2Proof/Laws/Results.lean ====
section
/-! SUPPORT. The bounds of a result: RES_CAP and TW_MAX, the values that may be delivered, and what an open PING_PARSE
may answer, each said once. -/

namespace Sys2Proof.Machine

/-- RES_CAP as rule R28 writes it. -/
theorem resCap_eq (p : Params) : p.resCap = max (2 * p.abufCap) (max (11 + 2 * p.maxLen) p.nDrain) := by
  rw [Params.resCap, Nat.add_comm 11]

/-- The capacities that RES_CAP covers, and its least value. -/
theorem le_resCap (p : Params) : 2 * p.abufCap ≤ p.resCap ∧ txCap p ≤ p.resCap ∧ rxCap p ≤ p.resCap ∧ 128 ≤ p.resCap := by
  unfold Params.resCap txCap rxCap Params.abufCap
  omega

/-- Every width that TWOSC and TOUNS accept delivers at most RES_CAP bytes (assumption 17). -/
theorem twMax_bytes_le (p : Params) {w : Nat} (h : w ≤ p.twMax) : (w + 7) / 8 ≤ p.resCap ∧ w / 8 + 1 ≤ p.resCap := by
  have := le_resCap p
  unfold Params.twMax at h
  omega

/-- TW_MAX is at least 8 (rule R10). -/
theorem eight_le_twMax (p : Params) : 8 ≤ p.twMax := Nat.le_add_left 8 _

/-- The legal values are those an OK result may deliver. -/
theorem legalValue_iff (p : Params) (v : Value) : legalValue p v = true ↔ DeliverableAs p v.tag v.data := by
  constructor
  · intro h
    simp only [legalValue, Bool.and_eq_true, decide_eq_true_eq] at h
    refine ⟨resCap_eq p ▸ h.1, fun e => ?_, fun e => ?_, fun e => ?_⟩ <;> simpa [e] using h.2
  · rintro ⟨fits, void, int, bool⟩
    simp only [legalValue, Bool.and_eq_true, decide_eq_true_eq]
    refine ⟨resCap_eq p ▸ fits, ?_⟩
    cases e : v.tag <;> simp_all

/-- All an open PING_PARSE can answer: a value an OK result may deliver, or a failure with a code. -/
theorem properVerdict_cases (p : Params) (a : Verdict Value) :
    (∃ v, a = .ok v ∧ DeliverableAs p v.tag v.data ∧ properVerdict p a = .ok v) ∨
    (∃ v, a = .ok v ∧ ¬ DeliverableAs p v.tag v.data ∧ properVerdict p a = .fail .tooShort) ∨
    (∃ c, a = .fail c ∧ c ≠ .noFailure ∧ properVerdict p a = .fail c) ∨
    (a = .fail .noFailure ∧ properVerdict p a = .fail .tooShort) := by
  cases a with
  | ok v =>
    by_cases h : legalValue p v = true
    · exact Or.inl ⟨v, rfl, (legalValue_iff p v).mp h, by simp [properVerdict, h]⟩
    · exact Or.inr (Or.inl ⟨v, rfl, fun d => h ((legalValue_iff p v).mpr d), by simp [properVerdict, h]⟩)
  | fail c =>
    by_cases h : c = .noFailure
    · exact Or.inr (Or.inr (Or.inr ⟨by rw [h], by simp [properVerdict, h]⟩))
    · exact Or.inr (Or.inr (Or.inl ⟨c, rfl, h, by simp [properVerdict, h]⟩))

end Sys2Proof.Machine
end

