-- ==== Sys2Proof/Machine/Assembly.lean ====
section
/-! DEFINITION. The assembly text of an operation (`30_encoding.md` rule R116) and the names of the formats (rule
R117). Nothing in the machine reads it. -/

namespace Sys2Proof.Machine

/-- The prose name of a format (rule R117). -/
def formatName (f : Format) : String :=
  (match f.shape with
    | .int => "int"
    | .bytes => "bytes"
    | .string => "string") ++ (if f.override then "-override" else "")

/-- The source literal of a format (rule R117). -/
def formatLiteral (f : Format) : String :=
  (match f.shape with
    | .int => "int"
    | .bytes => "b"
    | .string => "str") ++ (if f.override then "_ovvr" else "")

/-- The hex digits of a byte string as text. -/
def hexText (b : Bytes) : String := String.ofList ((hexenc b).map fun c => Char.ofNat c.toNat)

/-- A byte string as a bracketed list (rule R116). -/
def bytesText (b : Bytes) : String := "[" ++ String.intercalate ", " (b.map fun c => "0x" ++ hexText [c]) ++ "]"

/-- A register address: four hex digits in host-logical order (rule R116). -/
def regText (reg : BitVec 16) : String := "0x" ++ hexText (hostReg reg)

/-- A format: its prose name, or its code where it is reserved (rules R111, R116). -/
def fmtText (fmt : BitVec 3) : String :=
  match Format.ofBits fmt with
  | some f => formatName f
  | none => "FMT=" ++ toString fmt.toNat

/-- The sub-selector (rule R116). -/
def subText (sub : BitVec 2) : String :=
  match Kind.ofSub sub with
  | .ping => "PING"
  | .restart => "RESTART"
  | .read => "READ"
  | .write => "WRITE"

/-- `len, reg, fmt` (rule R116). -/
def readText (o : Operands) : String := toString o.len ++ ", " ++ regText o.reg ++ ", " ++ fmtText o.fmt

/-- The operands of BUILD (rule R116). -/
def buildText (o : Operands) : String :=
  match Kind.ofSub o.sub with
  | .ping => subText o.sub
  | .restart => subText o.sub
  | .read => subText o.sub ++ ", " ++ readText o
  | .write => subText o.sub ++ ", " ++ bytesText (valueBytes o) ++ ", " ++ readText o

/-- The operands of PARSE (rule R116). -/
def parseText (o : Operands) : String :=
  match Kind.ofSub o.sub with
  | .ping => subText o.sub ++ ", " ++ bytesText o.abuf
  | .restart => subText o.sub ++ ", " ++ bytesText o.abuf
  | .read => subText o.sub ++ ", " ++ bytesText o.abuf ++ ", " ++ readText o
  | .write => subText o.sub ++ ", " ++ bytesText o.abuf ++ ", " ++ readText o

/-- One operation in the assembly form of rule R116. -/
def asmText (p : Params) (i : Instr) : String :=
  match i with
  | .hexenc o => "HEXENC " ++ bytesText o.abuf
  | .hexdec o => "HEXDEC " ++ bytesText o.abuf
  | .twosc o => "TWOSC " ++ toString o.av ++ ", " ++ toString o.aw
  | .touns o => "TOUNS " ++ toString (avSigned p o) ++ ", " ++ toString o.aw
  | .brev o => "BREV " ++ bytesText o.abuf
  | .csum o => "CSUM " ++ bytesText o.abuf
  | .csumchk o => "CSUMCHK " ++ bytesText o.abuf ++ ", 0x" ++ hexText [o.ac]
  | .build o => "BUILD " ++ buildText o
  | .parse o => "PARSE " ++ parseText o
  | .ping _ => "PING"
  | .restart _ => "RESTART"
  | .read o => "READ " ++ readText o
  | .write o => "WRITE " ++ bytesText (valueBytes o) ++ ", " ++ readText o
  | .reserved13 _ => "RESERVED_13"
  | .reserved14 _ => "RESERVED_14"
  | .reserved15 _ => "RESERVED_15"

end Sys2Proof.Machine
end

