-- ==== Sys2Proof/Tests/Slice0.lean ====
section
/-! SUPPORT. The author's own tests: ill-formed commands refused, every selector decoded, one or two steps of each
operation against the spec's own examples (the rule or vector is named), and for each statement that has hypotheses a
state and operands that meet them. -/

namespace Sys2Proof.Tests

open Sys2Proof Sys2Proof.Machine

/-- Small parameters: MAX_LEN 4, N_POLL 2, N_DRAIN 20, TW_MAX 16, ABUF_CAP 64, CHID_W 8, REV_OK 1, 2, 4; no marker is a
character of a frame. -/
def params : Params :=
  { pingChar := 0x31, pingRule := .default, noiseSeq := (0x01, 0x02), noiseByte := 0x03, cancelSeq := (0x04, 0x05)
    tPollSlack := 0, nPollSlack := 1, tPace := 0, nDrainSlack := 0, tPause1 := 0, tPause2 := 0, maxLenSlack := 0
    revExtra := [], twMaxSlack := 8, abufCapSlack := 0, chidW := 8 }

/-- The block in Idle, built with those parameters, after RESET and the host's writes of CFG_CH_ID and CFG_TIMEOUT (rule
R325, steps 1 and 2). -/
def idle : State :=
  { State.reset with params := params, cfg := { ConfigRegs.reset with chIdWritten := true, timeoutWritten := true } }

/-- The same before those two writes. -/
def unconfigured : State := { State.reset with params := params, chScript := [answerCount 0] }

/-- Operands with a byte string. -/
def withBuf (b : Bytes) : Operands := { Operands.zero with abuf := b }

/-- Operands with a value and a width. -/
def withVal (v w : Nat) : Operands := { Operands.zero with av := v, aw := w }

/-- Operands of a READ or WRITE. -/
def fields (reg : BitVec 16) (len : Nat) (fmt : BitVec 3) (val : Bytes) : Operands :=
  { Operands.zero with reg := reg, len := len, fmt := fmt, val := val }

/-- The result registers after an operation. -/
def resOf : Result → Option ResultRegs
  | .next t => some t.res
  | .fault _ => none
  | .refused _ => none

/-- The frame held after an operation. -/
def frameOf : Result → Option Bytes
  | .next t => t.frame
  | .fault _ => none
  | .refused _ => none

/-- The channel answers `ok`, a count, a byte, `error`. -/
def ok : Draw := answerCount 0
def byteAnswer (b : Byte) : Draw := { error := false, count := 0, byte := some b }
def errorAnswer : Draw := { error := true, count := 0, byte := none }

/-! ## Ill-formed commands (rules R25, R26) -/

theorem test_val_too_long : decode params { opr := 0, operands := { Operands.zero with val := [1, 2, 3, 4, 5] } } =
    .error .valTooLong := by decide
theorem test_abuf_too_long : decode params { opr := 0, operands := withBuf (List.replicate 65 0) } =
    .error .abufTooLong := by decide
theorem test_av_too_wide : decode params { opr := 0, operands := withVal 65536 1 } = .error .avTooWide := by decide
theorem test_aw_too_large : decode params { opr := 0, operands := withVal 0 17 } = .error .awTooLarge := by decide
theorem test_ill_formed : (Instr.hexenc { Operands.zero with val := [1, 2, 3, 4, 5] }).wellFormed params = false ∧
    (Instr.csum (withBuf (List.replicate 65 0))).wellFormed params = false ∧
    (Instr.touns (withVal 65536 1)).wellFormed params = false ∧
    (Instr.twosc (withVal 0 17)).wellFormed params = false := by decide

/-! ## Every selector, from its word (rules R21, R110) -/

theorem test_decode_hexenc : decodeTableWord 8 0b00000000 = some (.hexenc Operands.zero) := by decide
theorem test_decode_hexdec : decodeTableWord 8 0b00000001 = some (.hexdec Operands.zero) := by decide
theorem test_decode_twosc : decodeTableWord 8 0b00000010 = some (.twosc Operands.zero) := by decide
theorem test_decode_touns : decodeTableWord 8 0b00000011 = some (.touns Operands.zero) := by decide
theorem test_decode_brev : decodeTableWord 8 0b00000100 = some (.brev Operands.zero) := by decide
theorem test_decode_csum : decodeTableWord 8 0b00000101 = some (.csum Operands.zero) := by decide
theorem test_decode_csumchk : decodeTableWord 8 0b00000110 = some (.csumchk Operands.zero) := by decide
theorem test_decode_build : decodeTableWord 8 0b00000111 = some (.build Operands.zero) := by decide
theorem test_decode_parse : decodeTableWord 8 0b00001000 = some (.parse Operands.zero) := by decide
theorem test_decode_ping : decodeTableWord 8 0b00001001 = some (.ping Operands.zero) := by decide
theorem test_decode_restart : decodeTableWord 8 0b00001010 = some (.restart Operands.zero) := by decide
theorem test_decode_read : decodeTableWord 8 0b00001011 = some (.read Operands.zero) := by decide
theorem test_decode_write : decodeTableWord 8 0b00001100 = some (.write Operands.zero) := by decide
theorem test_decode_reserved13 : decodeTableWord 8 0b00001101 = some (.reserved13 Operands.zero) := by decide
theorem test_decode_reserved14 : decodeTableWord 8 0b00001110 = some (.reserved14 Operands.zero) := by decide
theorem test_decode_reserved15 : decodeTableWord 8 0b00001111 = some (.reserved15 Operands.zero) := by decide
theorem test_decode_keeps_operands : decode params { opr := 11, operands := fields 0xEDF0 4 6 [1] } =
    .ok (.read (fields 0xEDF0 4 6 [1])) := by decide

/-! ## One step of each operation -/

/-- R131, example. -/
theorem test_hexenc : resOf (exec (.hexenc (withBuf [0x07, 0x00, 0x01, 0x00])) idle) =
    some (okRegs .bytes [0x30, 0x37, 0x30, 0x30, 0x30, 0x31, 0x30, 0x30]) := by decide
/-- R133, example. -/
theorem test_hexdec : resOf (exec (.hexdec (withBuf [0x34, 0x44])) idle) = some (okRegs .bytes [0x4D]) := by decide
/-- R133, corner case: lower case fails. -/
theorem test_hexdec_lower : resOf (exec (.hexdec (withBuf [0x30, 0x61])) idle) = some (failRegs .hexChar) := by decide
/-- R135, example: -43. -/
theorem test_twosc : resOf (exec (.twosc (withVal 0xD5 8)) idle) = some (okRegs .int [0xD5]) := by decide
/-- R135, corner case: -32768. -/
theorem test_twosc_16 : resOf (exec (.twosc (withVal 0x8000 16)) idle) = some (okRegs .int [0x80, 0x00]) := by decide
/-- R137, example: 213. AV holds -43 in 16 bits. -/
theorem test_touns : resOf (exec (.touns (withVal 0xFFD5 8)) idle) = some (okRegs .int [0x00, 0xD5]) := by decide
/-- R113: AW = 0. -/
theorem test_touns_zero_width : resOf (exec (.touns (withVal 0 0)) idle) = some (failRegs .operandRange) := by decide
/-- R139, example. -/
theorem test_brev : resOf (exec (.brev (withBuf [0x12, 0x34, 0x56, 0x78])) idle) =
    some (okRegs .bytes [0x78, 0x56, 0x34, 0x12]) := by decide
/-- R140: the empty input fails. -/
theorem test_brev_empty : resOf (exec (.brev (withBuf [])) idle) = some (failRegs .revWidth) := by decide
/-- R152, example. -/
theorem test_csum : resOf (exec (.csum (withBuf [0x07, 0x00, 0x01, 0x00])) idle) = some (okRegs .bytes [0x4D]) := by decide
/-- R152, corner case: wraps below zero. -/
theorem test_csum_wraps : resOf (exec (.csum (withBuf [0x56])) idle) = some (okRegs .bytes [0xFF]) := by decide
/-- R155, example. -/
theorem test_csumchk : resOf (exec (.csumchk { withBuf [0x07, 0x00, 0x01, 0x00] with ac := 0x4D }) idle) =
    some (okRegs .bool [1]) := by decide
/-- R155, corner case: a false result is OK with value 0. -/
theorem test_csumchk_false : resOf (exec (.csumchk (withBuf [])) idle) = some (okRegs .bool [0]) := by decide
/-- R174, example: BUILD READ, 4, 0xEDF0, int. -/
theorem test_build_read : resOf (exec (.build { fields 0xEDF0 4 0 [] with sub := 2 }) idle) =
    some (okRegs .bytes [0x3A, 0x37, 0x46, 0x30, 0x45, 0x44, 0x30, 0x30, 0x37, 0x31, 0x0A]) := by decide
/-- R170, example: the frame of WRITE [0x03, 0xE8], 2, 0xEDF0, int. -/
theorem test_build_write : resOf (exec (.build { fields 0xEDF0 2 0 [0x03, 0xE8] with sub := 3 }) idle) =
    some (okRegs .bytes [0x3A, 0x38, 0x46, 0x30, 0x45, 0x44, 0x30, 0x30, 0x45, 0x38, 0x30, 0x33, 0x38, 0x35, 0x0A]) := by
  decide

/-- The reply of R206's example, `:700010000A053FF5B` and a line feed. -/
def replyText : Bytes := [0x3A, 0x37, 0x30, 0x30, 0x30, 0x31, 0x30, 0x30, 0x30, 0x30, 0x41, 0x30, 0x35, 0x33, 0x46, 0x46,
  0x35, 0x42, 0x0A]

/-- R206, example: PARSE READ, 4, 0x0100, bytes. -/
theorem test_parse : resOf (exec (.parse { fields 0x0100 4 1 [] with sub := 2, abuf := replyText }) idle) =
    some (okRegs .bytes [0x00, 0xA0, 0x53, 0xFF]) := by decide
/-- R193, R286: another register asked for is reported as its echo. -/
theorem test_parse_echo : resOf (exec (.parse { fields 0x0101 4 1 [] with sub := 2, abuf := replyText }) idle) =
    some (failRegs .echoRegister) := by decide
/-- R166, illustrative CMD_PING `1`. -/
theorem test_ping : frameOf (exec (.ping Operands.zero) { idle with chScript := [ok] }) = some [0x3A, 0x31, 0x0A] := by
  decide
/-- R302: the channel does not open. -/
theorem test_ping_no_channel : resOf (exec (.ping Operands.zero) { idle with chScript := [errorAnswer, ok] }) =
    some (failRegs .chOpen) := by decide
/-- R168. -/
theorem test_restart : frameOf (exec (.restart Operands.zero) { idle with chScript := [ok] }) =
    some [0x3A, 0x36, 0x0A] := by decide
/-- R169, example: REG = 0x0100. -/
theorem test_read : frameOf (exec (.read (fields 0x0100 4 1 [])) { idle with chScript := [ok] }) =
    some [0x3A, 0x37, 0x30, 0x30, 0x30, 0x31, 0x30, 0x30, 0x34, 0x44, 0x0A] := by decide
/-- R111: FMT = 3. -/
theorem test_read_reserved_format : resOf (exec (.read (fields 0x0100 4 3 [])) idle) = some (failRegs .format) := by decide
/-- R170, example: the same command with format bytes. -/
theorem test_write : frameOf (exec (.write (fields 0xEDF0 2 1 [0x03, 0xE8])) { idle with chScript := [ok] }) =
    some [0x3A, 0x38, 0x46, 0x30, 0x45, 0x44, 0x30, 0x30, 0x30, 0x33, 0x45, 0x38, 0x38, 0x35, 0x0A] := by decide
/-- R171: a numeric format of width 3. -/
theorem test_write_width : resOf (exec (.write (fields 0xEDF0 3 0 [1, 2, 3])) idle) = some (failRegs .width) := by decide
/-- R112. -/
theorem test_reserved13 : resOf (exec (.reserved13 Operands.zero) idle) = some (failRegs .illegalOp) := by decide
theorem test_reserved14 : resOf (exec (.reserved14 Operands.zero) idle) = some (failRegs .illegalOp) := by decide
theorem test_reserved15 : resOf (exec (.reserved15 Operands.zero) idle) = some (failRegs .illegalOp) := by decide
/-- R282, R281: the numeric codes of FORMAT and its kind. -/
theorem test_codes : failCodeBits .format = 15 ∧ failKindBits (failKindOf .format) = 5 ∧
    failCodeBits .operandRange = 21 ∧ failKindBits (failKindOf .operandRange) = 7 := by decide

/-! ## States for the witnesses -/

/-- A RESTART about to be sent, with the trace of its ChOpen. -/
def sending : State :=
  { idle with
    cmd := { opr := 10, operands := Operands.zero }, st := .sending, att := 1, chOpen := true
    txBuf := [(0, 0x3A), (1, 0x36), (2, 0x0A)], txLen := 3
    log := [.request (.chOpen 0 19200 0) .ok] }

/-- A READ of 4 bytes at 0x0100, format bytes, in a given state of the engine. -/
def reading (st : EngineState) (script : List Draw) : State :=
  { idle with
    cmd := { opr := 11, operands := fields 0x0100 4 1 [] }, st := st, att := 1, chOpen := true
    txBuf := Memory.writeBytes [] 0 (readFrame 0x0100 0x4D), txLen := 11, chScript := script }

/-- The same with a capture. -/
def captured (st : EngineState) (buf : Bytes) (script : List Draw) : State :=
  { reading st script with rxBuf := Memory.writeBytes [] 0 buf, rxLen := buf.length, dcnt := buf.length }

/-- The same with one host input lined up. -/
def hosted (s : State) (a : HostAct) (r : Option Nat) : State := { s with hostIn := [{ act := a, reset := r }] }

theorem idle_inv : Inv idle where
  latched := by constructor <;> decide
  result := by constructor <;> simp [idle, State.reset, ResultRegs.cleared]
  buffers :=
    { txWf := by decide
      rxWf := by decide
      txCells := by simp [idle, State.reset]
      rxCells := by simp [idle, State.reset]
      txFits := by decide
      rxFits := by decide }
  counters := by constructor <;> simp [idle, State.reset]
  idle := by constructor <;> simp [idle, State.reset]
  busy := by constructor <;> simp [idle, State.reset]
  phase := by constructor <;> simp [idle, State.reset]
  held := by simp [HeldInv, idle, State.reset]

theorem idle_trace : TraceInv idle := by constructor <;> simp [idle, State.reset]

/-- The invariant does not look at the host's inputs and the channel's answers. -/
theorem inv_of_inputs {s : State} (h : Inv s) (inputs : List HostInput) (script : List Draw) :
    Inv { s with hostIn := inputs, chScript := script } :=
  { latched := ⟨h.latched.val, h.latched.abuf, h.latched.av, h.latched.aw⟩
    result := ⟨h.result.none, h.result.ok, h.result.fail⟩
    buffers := ⟨h.buffers.txWf, h.buffers.rxWf, h.buffers.txCells, h.buffers.rxCells, h.buffers.txFits, h.buffers.rxFits⟩
    counters := ⟨h.counters.att, h.counters.ccnt, h.counters.pcnt, h.counters.dcnt⟩
    idle := ⟨h.idle.closed, h.idle.txEmpty, h.idle.rxEmpty⟩
    busy := ⟨h.busy.opened, h.busy.started, h.busy.noResult, h.busy.noWarning⟩
    phase := ⟨h.phase.sending, h.phase.awaiting, h.phase.captured, h.phase.beforeRecovery, h.phase.exhausted,
      h.phase.restart⟩
    held := h.held }

/-- Nor does the invariant of the trace. -/
theorem trace_of_inputs {s : State} (h : TraceInv s) (inputs : List HostInput) (script : List Draw) :
    TraceInv { s with hostIn := inputs, chScript := script } :=
  ⟨h.marked, h.opened, h.oneOpen, h.noClose, h.sent, h.cancelled, h.flushed, h.polled, h.read⟩

theorem sending_inv : Inv sending where
  latched := by constructor <;> decide
  result := by constructor <;> simp [sending, idle, State.reset, ResultRegs.cleared]
  buffers :=
    { txWf := by decide
      rxWf := by decide
      txCells := by
        intro a
        simp only [sending, Memory.read]
        by_cases h0 : a = 0
        · simp [h0]
        · by_cases h1 : a = 1
          · simp [h1]
          · by_cases h2 : a = 2
            · simp [h2]
            · have e0 : ¬ 0 = a := fun e => h0 e.symm
              have e1 : ¬ 1 = a := fun e => h1 e.symm
              have e2 : ¬ 2 = a := fun e => h2 e.symm
              simp [e0, e1, e2]
              omega
      rxCells := by simp [sending, idle, State.reset]
      txFits := by decide
      rxFits := by decide }
  counters := by constructor <;> decide
  idle := by constructor <;> simp [sending]
  busy := by constructor <;> simp [sending, idle, State.reset]
  phase := by constructor <;> simp [sending, idle, State.reset]
  held := by
    intro _
    exact ⟨.restart, [0x3A, 0x36, 0x0A], by decide, by decide, by decide, by decide, by decide⟩

theorem sending_trace : TraceInv sending where
  marked := by decide
  opened := by decide
  oneOpen := by decide
  noClose := by decide
  sent := by
    intro f _ hf
    have : f = [0x3A, 0x36, 0x0A] := by
      have e : sending.frame = some [0x3A, 0x36, 0x0A] := by decide
      rw [e] at hf
      exact (Option.some.inj hf).symm
    subst this
    decide
  cancelled := by decide
  flushed := by decide
  polled := by decide
  read := by decide

/-- No marker of the test parameters is in a text that has none of the bytes 1, 3 and 9. -/
theorem not_noisy {k : Kind} {len : Nat} {buf : Bytes} (h : buf.all (fun b => b != 1 && b != 3 && b != 9) = true)
    (hl : ¬ ((k = .read ∨ k = .write) ∧ 11 + 2 * len < buf.length)) : ¬ noisy params k len buf := by
  have no : ∀ b ∈ buf, b ≠ 1 ∧ b ≠ 3 ∧ b ≠ 9 := by simpa [and_assoc] using h
  rintro (⟨i, hi⟩ | h3 | h9 | h4)
  · have : (1 : Byte) ∈ (buf.drop i).take 2 := by rw [hi]; simp [params]
    exact (no 1 (List.mem_of_mem_drop (List.mem_of_mem_take this))).1 rfl
  · exact (no 3 h3).2.1 rfl
  · exact (no 9 h9).2.2 rfl
  · exact hl h4

/-! ## Witnesses: for each statement with hypotheses, a state and operands that meet them -/

theorem witness_StepRunsTheDecodedCommand :
    (hosted idle (.command { opr := 5, operands := Operands.zero }) none).hostIn =
        { act := .command { opr := 5, operands := Operands.zero }, reset := none } :: [] ∧
      decode idle.params { opr := 5, operands := Operands.zero } = .ok (.csum Operands.zero) ∧ idle.hostIn = [] ∧
      idle.configured = true ∧ Kind.ofOpr (Instr.csum Operands.zero).opr = none ∧
      (hosted sending .wait none).hostIn = { act := .wait, reset := none } :: [] ∧ idle.st = .idle := by decide
/-- A READ of a reserved format makes no channel request, so that it runs in a block not configured too. -/
theorem witness_StepRunsTheDecodedCommand_unconfigured : ∀ t,
    exec (.read (fields 0x0100 4 3 [])) unconfigured = .next t → t.log = unconfigured.log := by
  rintro t ⟨⟩
  rfl
theorem witness_CommandAcceptedOnlyInIdle :
    sending.st ≠ .idle ∧ idle.st = .idle ∧ ∃ t, exec (.csum Operands.zero) idle = .next t :=
  ⟨by decide, rfl, _, rfl⟩
theorem witness_OnlyTheseInputsAreRefused :
    step (hosted idle (.command { opr := 2, operands := withVal 0 17 }) none) =
        .refused (.commandNotExpressible .awTooLarge) ∧
      step (hosted idle (.writeChId 256) none) = .refused .chIdNotExpressible ∧
      step (hosted unconfigured (.command { opr := 10, operands := Operands.zero }) none) = .refused .notConfigured ∧
      unconfigured.configured = false ∧ unconfigured.st = .idle ∧
      acceptFailure params .restart Operands.zero = none ∧
      build params .restart Operands.zero = .ok [0x3A, 0x36, 0x0A] := ⟨rfl, rfl, rfl, rfl, rfl, rfl, rfl⟩
theorem witness_ResetAtAnyMoment :
    (hosted sending .wait (some 1)).hostIn = { act := .wait, reset := some 1 } :: [] ∧
      (∃ u, hostStep .wait { hosted { sending with chScript := [answerCount 3, ok] } .wait (some 1) with hostIn := [] } =
        .next u) ∧
      (∀ u, hostStep (.writeChId 256) { hosted idle (.writeChId 256) (some 0) with hostIn := [] } ≠ .next u) :=
  ⟨rfl, ⟨_, rfl⟩, fun _ h => nomatch h⟩
/-- A RESET after the ChOpen of a RESTART in a block not configured: the step would be refused. -/
theorem witness_ResetAtAnyMoment_unconfigured :
    hostStep (.command { opr := 10, operands := Operands.zero }) unconfigured = .refused .notConfigured := rfl
theorem witness_InvKeptByEveryStep : Inv { sending with hostIn := [], chScript := [answerCount 2] } ∧
    ∃ t, step { sending with hostIn := [], chScript := [answerCount 2] } = .next t ∧ t.att = 2 :=
  ⟨inv_of_inputs sending_inv _ _, _, rfl, rfl⟩
theorem witness_TraceInvKeptByEveryStep : Inv { sending with hostIn := [], chScript := [answerCount 2] } ∧
    TraceInv { sending with hostIn := [], chScript := [answerCount 2] } ∧
    ∃ t, step { sending with hostIn := [], chScript := [answerCount 2] } = .next t ∧ t.att = 2 :=
  ⟨inv_of_inputs sending_inv _ _, trace_of_inputs sending_trace _ _, _, rfl, rfl⟩
theorem witness_NoFaultUnderInv : Inv sending := sending_inv
theorem witness_EveryTransactionEnds : Inv sending ∧ TraceInv sending ∧ sending.hostIn = [] ∧ sending.st ≠ .idle ∧
    sending.frame = some [0x3A, 0x36, 0x0A] := ⟨sending_inv, sending_trace, rfl, by decide, by decide⟩
theorem witness_EngineKeepsCommandAndFrame :
    ∃ t, engineStep (reading .accepted []) = .next t ∧ t.st ≠ .idle := ⟨_, rfl, by decide⟩
theorem witness_HostCannotDisturbTransaction : sending.st ≠ .idle ∧ HostAct.writeBaud 9600 ≠ .wait ∧
    ∃ t, step (hosted sending (.writeBaud 9600) none) = .next t := ⟨by decide, by decide, _, rfl⟩
theorem witness_ConfigWrittenOnlyInIdle : 255 < 2 ^ idle.params.chidW ∧ idle.st = .idle ∧ sending.st ≠ .idle ∧
    (hosted idle (.writeChId 255) none).hostIn = { act := .writeChId 255, reset := none } :: [] ∧
    (hosted idle (.writeBaud 0) none).hostIn = { act := .writeBaud 0, reset := none } :: [] ∧
    (hosted idle (.writeTimeout 0) none).hostIn = { act := .writeTimeout 0, reset := none } :: [] ∧
    (hosted idle (.writeDebug true) none).hostIn = { act := .writeDebug true, reset := none } :: [] := by decide
theorem witness_HexencDelivers : idle.st = .idle := rfl
theorem witness_HexdecDecodesOrFails : idle.st = .idle ∧ (withBuf [0x30]).abuf.length % 2 = 1 ∧
    ((withBuf [0x30, 0x61]).abuf.length % 2 = 0 ∧ ∃ c ∈ (withBuf [0x30, 0x61]).abuf, hexval c = none) ∧
    ((withBuf [0x30, 0x46]).abuf.length % 2 = 0 ∧ ∀ c ∈ (withBuf [0x30, 0x46]).abuf, hexval c ≠ none) := by decide
theorem witness_TwoscConvertsOrFails : idle.st = .idle ∧
    (1 ≤ (withVal 1 1).aw ∧ (withVal 1 1).aw ≤ idle.params.twMax ∧ (withVal 1 1).av < 2 ^ (withVal 1 1).aw) ∧
    ((withVal 0x8000 16).aw ≤ idle.params.twMax ∧ (withVal 0x8000 16).av < 2 ^ (withVal 0x8000 16).aw) ∧
    (withVal 0 0).aw = 0 ∧ idle.params.twMax < (withVal 0 17).aw ∧ 2 ^ (withVal 2 1).aw ≤ (withVal 2 1).av := by decide
theorem witness_TounsConvertsOrFails : idle.st = .idle ∧ (withVal 0xFF80 8).av < 2 ^ idle.params.twMax ∧
    (-128 : Int) = (if 2 ^ (idle.params.twMax - 1) ≤ (withVal 0xFF80 8).av
      then ((withVal 0xFF80 8).av : Int) - 2 ^ idle.params.twMax else (withVal 0xFF80 8).av) ∧
    1 ≤ (withVal 0xFF80 8).aw ∧ (withVal 0xFF80 8).aw ≤ idle.params.twMax ∧
    -(2 ^ ((withVal 0xFF80 8).aw - 1) : Int) ≤ -128 ∧ (-128 : Int) < 2 ^ ((withVal 0xFF80 8).aw - 1) ∧
    (withVal 0 0).aw = 0 ∧ idle.params.twMax < (withVal 0 17).aw ∧ (-128 : Int) < -(2 ^ ((withVal 0xFF80 7).aw - 1) : Int) ∧
    (2 ^ ((withVal 1 1).aw - 1) : Int) ≤ 1 := by decide
theorem witness_BrevReversesOrFails : idle.st = .idle ∧ widthOk idle.params (withBuf [1]).abuf.length ∧
    ¬ widthOk idle.params (withBuf []).abuf.length := by
  refine ⟨rfl, ?_, ?_⟩ <;> simp [widthOk, withBuf]
theorem witness_HexencLawsAndRoundTrips : hexenc [0x4D] = hexenc [0x4D] ∧ hexdec [0x34, 0x44] = .ok [0x4D] := by decide
theorem witness_SignConversionLaws : 1 ≤ 1 ∧ 1 < 2 ^ 1 ∧ -(2 ^ (1 - 1) : Int) ≤ -1 ∧ (-1 : Int) < 2 ^ (1 - 1) := by decide
theorem witness_BrevIsAnInvolution : widthOk params [1, 2].length := by simp [widthOk]
theorem witness_CsumDelivers : idle.st = .idle := rfl
theorem witness_CsumchkDelivers : idle.st = .idle := rfl
theorem witness_ChecksumLaws : List.Perm [1, 2] ([2, 1] : Bytes) ∧ brev params [1, 2] = some [2, 1] ∧
    0 < ([1] : Bytes).length ∧ ([1] : Bytes)[0]? ≠ some 2 := by decide
theorem witness_BuildShortFrames : idle.st = .idle ∧ Operands.zero.sub = 0 ∧ { Operands.zero with sub := 1 }.sub = 1 := by
  decide
theorem witness_BuildReadFrame : idle.st = .idle ∧ { fields 0 4 6 [] with sub := 2 }.sub = 2 ∧
    fieldsAccepted idle.params { fields 0 4 6 [] with sub := 2 } := by
  refine ⟨rfl, rfl, ?_⟩
  unfold fieldsAccepted fmtNamed
  decide
theorem witness_BuildWriteFrame : idle.st = .idle ∧ { fields 0 4 0 [1] with sub := 3 }.sub = 3 ∧
    fieldsAccepted idle.params { fields 0 4 0 [1] with sub := 3 } ∧
    (fmtInt (fields 0 4 0 [1]).fmt → widthOk idle.params (fields 0 4 0 [1]).len) := by
  refine ⟨rfl, rfl, ?_, ?_⟩
  · unfold fieldsAccepted fmtNamed
    decide
  · unfold fmtInt widthOk
    decide
theorem witness_BuildFails : idle.st = .idle ∧ { fields 0 4 3 [] with sub := 2 }.sub = 2 ∧
    ¬ fmtNamed (fields 0 4 3 []).fmt ∧ (fmtNamed (fields 0 5 1 []).fmt ∧ idle.params.maxLen < (fields 0 5 1 []).len) ∧
    { fields 0 0 4 [] with sub := 3 }.sub = 3 ∧ fieldsAccepted idle.params (fields 0 0 4 []) ∧
    fmtInt (fields 0 0 4 []).fmt ∧ ¬ widthOk idle.params (fields 0 0 4 []).len := by
  unfold fieldsAccepted fmtNamed fmtInt widthOk
  decide
theorem witness_BuiltFrameProperties : (∃ f, build params .write (fields 0 0 1 []) = .ok f) ∧
    ∃ f, build { params with pingChar := 0x47 } .ping Operands.zero = .ok f ∧ f[1]? = some 0x47 := ⟨⟨_, rfl⟩, _, rfl, rfl⟩
/-- R10, R172: `7`, a tab, a carriage return and a lower-case letter are no CMD_PING; `1`, `5`, `9` and `A` may be. -/
theorem test_ping_characters : [0x37, 0x09, 0x0D, 0x61, 0x7A].map pingCharAllowed = [false, false, false, false, false] ∧
    [0x31, 0x35, 0x39, 0x41].map pingCharAllowed = [true, true, true, true] := by decide

/-- The reply of R206's example as a PARSE operand. -/
def parseOperands (fmt : BitVec 3) : Operands := { fields 0x0100 4 fmt [] with sub := 2, abuf := replyText }

theorem replyText_eq : replyText = dataFrame 0x37 0x0100 [0x00, 0xA0, 0x53, 0xFF] 0x5B ++ [] := by decide

theorem witness_ParseDelivers : idle.st = .idle ∧ (parseOperands 1).sub = 2 ∧
    fieldsAccepted idle.params (parseOperands 1) ∧ ([0x00, 0xA0, 0x53, 0xFF] : Bytes).length = (parseOperands 1).len ∧
    (fmtInt (parseOperands 1).fmt → widthOk idle.params (parseOperands 1).len) ∧
    (parseOperands 1).abuf = dataFrame 0x37 (parseOperands 1).reg [0x00, 0xA0, 0x53, 0xFF] 0x5B ++ [] ∧
    sumsTo85 (dataPayload 0x07 (parseOperands 1).reg [0x00, 0xA0, 0x53, 0xFF]) 0x5B ∧
    fmtOverride (parseOperands 5).fmt := by
  unfold fieldsAccepted fmtNamed fmtInt widthOk sumsTo85 fmtOverride
  decide
/-- The same for the reply to a WRITE, with the fields of R206's example. -/
def writeReply (fmt : BitVec 3) : Operands :=
  { fields 0x0100 4 fmt [] with sub := 3, abuf := dataFrame 0x38 0x0100 [0x00, 0xA0, 0x53, 0xFF] 0x5A }

theorem witness_ParseDelivers_write : (writeReply 1).sub = 3 ∧ fieldsAccepted idle.params (writeReply 1) ∧
    ([0x00, 0xA0, 0x53, 0xFF] : Bytes).length = (writeReply 1).len ∧
    (fmtInt (writeReply 1).fmt → widthOk idle.params (writeReply 1).len) ∧
    (writeReply 1).abuf = dataFrame 0x38 (writeReply 1).reg [0x00, 0xA0, 0x53, 0xFF] 0x5A ++ [] ∧
    sumsTo85 (dataPayload 0x08 (writeReply 1).reg [0x00, 0xA0, 0x53, 0xFF]) 0x5A := by
  unfold fieldsAccepted fmtNamed fmtInt widthOk sumsTo85
  decide
theorem witness_ParseChecksAndWidthFail_write : (writeReply 1).sub = 3 ∧ fieldsAccepted idle.params (writeReply 1) ∧
    ¬ fmtInt (writeReply 1).fmt ∧ ¬ fmtOverride (writeReply 1).fmt ∧
    { writeReply 1 with abuf := dataFrame 0x38 0x0100 [0x00, 0xA0, 0x53, 0xFE] 0x5A }.abuf =
      dataFrame 0x38 (writeReply 1).reg [0x00, 0xA0, 0x53, 0xFE] 0x5A ++ [] ∧
    ¬ sumsTo85 (dataPayload 0x08 (writeReply 1).reg [0x00, 0xA0, 0x53, 0xFE]) 0x5A := by
  unfold fieldsAccepted fmtNamed fmtInt sumsTo85 fmtOverride
  decide
theorem witness_ParseDeliversOnlyValidReplies_write : (writeReply 1).sub = 3 ∧
    ∃ t, exec (.parse (writeReply 1)) idle = .next t ∧ t.res.status = .ok := ⟨rfl, _, rfl, by decide⟩
theorem witness_ParseReportsTheFirstFault_write : (writeReply 1).sub = 3 ∧
    firstReplyFault 0x38 { writeReply 1 with reg := 0 } (writeReply 1).abuf = some .echoRegister := by decide
theorem witness_ParseChecksAndWidthFail : idle.st = .idle ∧ (parseOperands 1).sub = 2 ∧
    fieldsAccepted idle.params (parseOperands 1) ∧ ([0x00, 0xA0, 0x53, 0xFE] : Bytes).length = (parseOperands 1).len ∧
    ¬ fmtInt (parseOperands 1).fmt ∧ ¬ fmtOverride (parseOperands 1).fmt ∧
    { parseOperands 1 with abuf := dataFrame 0x37 0x0100 [0x00, 0xA0, 0x53, 0xFE] 0x5B }.abuf =
      dataFrame 0x37 (parseOperands 1).reg [0x00, 0xA0, 0x53, 0xFE] 0x5B ++ [] ∧
    ¬ sumsTo85 (dataPayload 0x07 (parseOperands 1).reg [0x00, 0xA0, 0x53, 0xFE]) 0x5B ∧
    fmtInt (fields 0 0 0 []).fmt ∧ ¬ widthOk idle.params (fields 0 0 0 []).len ∧
    fieldsAccepted idle.params (fields 0 0 0 []) ∧ ([] : Bytes).length = (fields 0 0 0 []).len := by
  unfold fieldsAccepted fmtNamed fmtInt widthOk sumsTo85 fmtOverride
  decide
theorem witness_ParseDeliversOnlyValidReplies : idle.st = .idle ∧ (parseOperands 1).sub = 2 ∧
    ∃ t, exec (.parse (parseOperands 1)) idle = .next t ∧ t.res.status = .ok := ⟨rfl, rfl, _, rfl, by decide⟩
theorem witness_ParseReportsTheFirstFault : idle.st = .idle ∧ fieldsAccepted idle.params (parseOperands 1) ∧
    (parseOperands 1).sub = 2 ∧ firstReplyFault 0x37 { parseOperands 1 with abuf := [] } [] = some .tooShort ∧
    firstReplyFault 0x37 { parseOperands 1 with reg := 0 } replyText = some .echoRegister ∧
    firstReplyFault 0x37 (parseOperands 1) (replyText.set 17 0x62) = some .hexDigit := by
  unfold fieldsAccepted fmtNamed
  decide
theorem witness_ParsePingReply : idle.st = .idle ∧ Operands.zero.sub = 0 ∧ idle.params.pingRule = .default ∧
    (withBuf []).abuf = [] ∧ (withBuf [0x41]).abuf = [] ++ [0x41] ∧ (0x41 : Byte) ≠ 0x0A ∧
    (withBuf [0x0A]).abuf = [] ++ [0x0A] ∧
    ({ params with pingRule := .unknown }).pingRule = .unknown := by decide
/-- An open PING_PARSE answers one or the other on every buffer; values of both sorts exist. -/
theorem witness_ParsePingReply_open (b : Bytes) :
    ((∃ v, Config.pingParse b = .ok v) ∨ ∃ c, Config.pingParse b = .fail c) ∧
      DeliverableAs params .bool [1] ∧ ¬ DeliverableAs params .bool [2] ∧ ¬ DeliverableAs params .void [0] := by
  refine ⟨?_, ⟨by decide, by decide, by decide, by decide⟩, fun h => absurd (h.bool rfl) (by decide),
    fun h => absurd (h.void rfl) (by decide)⟩
  cases Config.pingParse b with
  | ok v => exact Or.inl ⟨v, rfl⟩
  | fail c => exact Or.inr ⟨c, rfl⟩
/-- R28: what an open PING_PARSE may answer. -/
theorem test_proper_verdict : properVerdict params (.ok { tag := .bool, data := [2] }) = .fail .tooShort ∧
    properVerdict params (.ok { tag := .void, data := [0] }) = .fail .tooShort ∧
    properVerdict params (.ok { tag := .bool, data := [1] }) = .ok { tag := .bool, data := [1] } := by decide
theorem witness_ParseAcceptanceFails : idle.st = .idle ∧ { Operands.zero with sub := 1 }.sub = 1 ∧
    { fields 0 0 7 [] with sub := 3 }.sub = 3 ∧ ¬ fmtNamed (fields 0 0 7 []).fmt ∧ fmtNamed (fields 0 5 0 []).fmt ∧
    idle.params.maxLen < (fields 0 5 0 []).len := by
  unfold fmtNamed
  decide
theorem witness_ReservedSelectorsFail : idle.st = .idle ∧ Inv idle := ⟨rfl, idle_inv⟩
theorem witness_PingAndRestartStart : { idle with chScript := [ok] }.st = .idle ∧
    State.configured { idle with chScript := [ok] } = true ∧
    (State.drawAt { idle with chScript := [ok] } 0).error = false := by decide
theorem witness_ReadStarts : { idle with chScript := [ok] }.st = .idle ∧
    State.configured { idle with chScript := [ok] } = true ∧
    fieldsAccepted idle.params (fields 0 4 0 []) ∧ (State.drawAt { idle with chScript := [ok] } 0).error = false := by
  unfold fieldsAccepted fmtNamed
  decide
theorem witness_WriteStarts : { idle with chScript := [ok] }.st = .idle ∧
    State.configured { idle with chScript := [ok] } = true ∧
    fieldsAccepted idle.params (fields 0 4 0 []) ∧
    (fmtInt (fields 0 4 0 []).fmt → widthOk idle.params (fields 0 4 0 []).len) ∧
    (State.drawAt { idle with chScript := [ok] } 0).error = false := by
  unfold fieldsAccepted fmtNamed fmtInt widthOk
  decide
theorem witness_TransactionRefusedAtAcceptance : idle.st = .idle ∧ ¬ fmtNamed (fields 0 0 7 []).fmt ∧
    (fmtNamed (fields 0 5 0 []).fmt ∧ idle.params.maxLen < (fields 0 5 0 []).len) ∧
    (fieldsAccepted idle.params (fields 0 3 4 []) ∧ fmtInt (fields 0 3 4 []).fmt ∧
      ¬ widthOk idle.params (fields 0 3 4 []).len) := by
  unfold fieldsAccepted fmtNamed fmtInt widthOk
  decide
theorem witness_ChOpenErrorEndsTransaction : { idle with chScript := [errorAnswer] }.st = .idle ∧
    State.configured { idle with chScript := [errorAnswer] } = true ∧
    fieldsAccepted idle.params (fields 0 4 0 []) ∧
    (fmtInt (fields 0 4 0 []).fmt → widthOk idle.params (fields 0 4 0 []).len) ∧
    (State.drawAt { idle with chScript := [errorAnswer] } 0).error = true := by
  unfold fieldsAccepted fmtNamed fmtInt widthOk
  decide
theorem witness_SendingWritesTheWholeFrame : (reading .sending [answerCount 11]).st = .sending ∧
    Kind.ofOpr (reading .sending [answerCount 11]).cmd.opr = some .read ∧
    (reading .sending [answerCount 11]).frame = some (readFrame 0x0100 0x4D) ∧
    ((reading .sending [answerCount 11]).drawAt 0).error = false ∧
    ((reading .sending [answerCount 11]).drawAt 0).count = (reading .sending [answerCount 11]).txLen := by decide
theorem witness_ShortWriteEndsTheAttempt : (reading .sending [answerCount 12]).st = .sending ∧
    Kind.ofOpr (reading .sending [answerCount 12]).cmd.opr = some .read ∧
    (reading .sending [answerCount 12]).frame = some (readFrame 0x0100 0x4D) ∧
    ((reading .sending [answerCount 12]).drawAt 0).error = false ∧
    ((reading .sending [answerCount 12]).drawAt 0).count = 12 ∧ 12 ≠ (reading .sending [answerCount 12]).txLen ∧
    (reading .sending [answerCount 12]).att < 5 ∧ 5 ≤ { reading .sending [answerCount 12] with att := 5 }.att := by decide
theorem witness_RestartCompletesWithTheWrite : sending.st = .sending ∧ sending.cmd.opr = 10 ∧
    sending.frame = some [0x3A, 0x36, 0x0A] ∧ sending.txLen = 3 ∧
    (State.drawAt { sending with chScript := [answerCount 3, ok] } 0).error = false ∧
    (State.drawAt { sending with chScript := [answerCount 3, ok] } 0).count = 3 ∧
    (State.drawAt { sending with chScript := [answerCount 3, ok] } 1).error = false ∧
    (State.drawAt { sending with chScript := [answerCount 3, errorAnswer] } 1).error = true := by decide
theorem witness_AwaitingDataPolls : (reading .awaitingData [answerCount 1]).st = .awaitingData ∧
    Kind.ofOpr (reading .awaitingData [answerCount 1]).cmd.opr = some .read ∧
    ((reading .awaitingData [answerCount 1]).drawAt 0).error = false ∧
    ((reading .awaitingData [answerCount 1]).drawAt 0).count = 1 ∧
    ((reading .awaitingData [answerCount 0]).drawAt 0).count = 0 ∧
    (reading .awaitingData [answerCount 0]).pcnt + 1 < (reading .awaitingData [answerCount 0]).params.nPoll ∧
    (reading .awaitingData [answerCount 0]).params.nPoll ≤
      { reading .awaitingData [answerCount 0] with pcnt := 1 }.pcnt + 1 := by decide
theorem witness_DrainingAppendsOneByte : (reading .draining [answerCount 1, byteAnswer 0x3A]).st = .draining ∧
    Kind.ofOpr (reading .draining [answerCount 1, byteAnswer 0x3A]).cmd.opr = some .read ∧
    (reading .draining [answerCount 1, byteAnswer 0x3A]).dcnt < params.nDrain ∧
    (reading .draining [answerCount 1, byteAnswer 0x3A]).rxLen < params.nDrain ∧
    ((reading .draining [answerCount 1, byteAnswer 0x3A]).drawAt 0).error = false ∧
    0 < ((reading .draining [answerCount 1, byteAnswer 0x3A]).drawAt 0).count ∧
    ((reading .draining [answerCount 1, byteAnswer 0x3A]).drawAt 1).error = false ∧
    ((reading .draining [answerCount 1, byteAnswer 0x3A]).drawAt 1).byte = some 0x3A := by decide
theorem witness_DrainingEnds : (reading .draining []).st = .draining ∧
    Kind.ofOpr (reading .draining []).cmd.opr = some .read ∧
    (reading .draining []).params.nDrain ≤ { reading .draining [] with dcnt := 20 }.dcnt ∧
    (reading .draining []).dcnt < (reading .draining []).params.nDrain ∧
    ((reading .draining [answerCount 0]).drawAt 0).error = false ∧
    ((reading .draining [answerCount 0]).drawAt 0).count = 0 ∧
    0 < ((reading .draining [answerCount 1, ok]).drawAt 0).count ∧
    ((reading .draining [answerCount 1, ok]).drawAt 1).error = false ∧
    ((reading .draining [answerCount 1, ok]).drawAt 1).byte = none := by decide
theorem witness_ClassifyingVerdict : (captured .classifying [0x41] []).st = .classifying ∧
    Kind.ofOpr (captured .classifying [0x41] []).cmd.opr = some .read ∧
    (captured .classifying [0x41] []).capture = some [0x41] ∧ ([0x41] : Bytes) ≠ [] ∧
    ¬ noisy (captured .classifying [0x41] []).params .read 4 [0x41] ∧
    (captured .classifying [] []).capture = some [] ∧ noisy params .read 4 [0x09] :=
  ⟨rfl, by decide, by decide, by decide, not_noisy (by decide) (by decide), by decide, Or.inr (Or.inr (Or.inl (by decide)))⟩
theorem witness_RecoverySequence : (reading .noisyRetry [ok, ok, ok]).st = .noisyRetry ∧
    Kind.ofOpr (reading .noisyRetry [ok, ok, ok]).cmd.opr = some .read ∧
    ((reading .noisyRetry [ok, ok, ok]).drawAt 0).error = false ∧
    ((reading .noisyRetry [ok, ok, ok]).drawAt 1).error = false ∧
    ((reading .noisyRetry [ok, ok, ok]).drawAt 2).error = false ∧ (reading .noisyRetry [ok, ok, ok]).att < 5 ∧
    5 ≤ { reading .noisyRetry [ok, ok, ok] with att := 5 }.att := by decide
theorem witness_AcceptedAndExhaustedLeave : Kind.ofOpr (reading .accepted []).cmd.opr = some .read ∧
    (reading .accepted []).st = .accepted ∧ (reading .exhausted []).st = .exhausted ∧ Kind.read ≠ .restart ∧
    Kind.ofOpr { sending with st := .exhausted }.cmd.opr = some .restart ∧
    { sending with st := .exhausted }.chOpen = true := by decide
theorem witness_ParsedClosesAndDelivers : (captured .parsed replyText [ok]).st = .parsed ∧
    Kind.ofOpr (captured .parsed replyText [ok]).cmd.opr = some .read ∧
    (captured .parsed replyText [ok]).capture = some replyText ∧
    (parse params .read replyText (fields 0x0100 4 1 [])).out = .ok { tag := .bytes, data := [0x00, 0xA0, 0x53, 0xFF] } ∧
    (parse params .read [] (fields 0x0100 4 1 [])).out = .fail .tooShort ∧
    ((captured .parsed replyText [ok]).drawAt 0).error = false ∧
    ((captured .parsed replyText [errorAnswer]).drawAt 0).error = true := by decide
theorem witness_ChannelErrorEndsTransaction : Kind.ofOpr (reading .sending []).cmd.opr = some .read ∧
    (reading .sending []).chOpen = true ∧
    (reading .sending [errorAnswer]).frame = some (readFrame 0x0100 0x4D) ∧
    ((reading .sending [errorAnswer]).drawAt 0).error = true ∧
    (reading .draining []).dcnt < (reading .draining []).params.nDrain ∧
    ((reading .draining [errorAnswer]).drawAt 0).error = true ∧
    0 < ((reading .draining [answerCount 1, errorAnswer]).drawAt 0).count ∧
    ((reading .draining [answerCount 1, errorAnswer]).drawAt 0).error = false ∧
    ((reading .draining [answerCount 1, errorAnswer]).drawAt 1).error = true ∧
    ((reading .noisyRetry [errorAnswer]).drawAt 0).error = true ∧
    ((reading .noisyRetry [ok, errorAnswer]).drawAt 0).error = false ∧
    ((reading .noisyRetry [ok, errorAnswer]).drawAt 1).error = true ∧
    ((reading .noisyRetry [ok, ok, errorAnswer]).drawAt 0).error = false ∧
    ((reading .noisyRetry [ok, ok, errorAnswer]).drawAt 1).error = false ∧
    ((reading .noisyRetry [ok, ok, errorAnswer]).drawAt 2).error = true := by decide
theorem witness_EveryExitClosesOnce : Inv { sending with hostIn := [], chScript := [answerCount 3, ok] } ∧
    TraceInv { sending with hostIn := [], chScript := [answerCount 3, ok] } ∧ sending.st ≠ .idle ∧
    ∃ t, engineStep { sending with hostIn := [], chScript := [answerCount 3, ok] } = .next t ∧ t.st = .idle :=
  ⟨inv_of_inputs sending_inv _ _, trace_of_inputs sending_trace _ _, by decide, _, rfl, rfl⟩

/-- The READ command of the whole-transaction statements, presented to a block in Idle. -/
def presented (script : List Draw) : State :=
  { idle with
    hostIn := [{ act := .command { opr := 11, operands := fields 0x0100 4 1 [] }, reset := none }]
    chScript := script }

/-- The channel's answers where the reply comes at once (rule R255, first case; R206's example). -/
def immediate : List Draw := [answerCount 0, answerCount 11, answerCount 19] ++
  replyDraws (dataFrame 0x37 0x0100 [0x00, 0xA0, 0x53, 0xFF] 0x5B) ++ [answerCount 0, answerCount 0]

/-- The channel's answers where nothing ever arrives. -/
def silent : List Draw := [answerCount 0] ++ (List.replicate 5 (silentAttempt params 11)).flatten ++ [ok]

/-- The channel's answers where every capture is a tab. -/
def tabs : List Draw := [answerCount 0] ++ (List.replicate 5 ([answerCount 11, answerCount 1] ++ replyDraws [0x09] ++
  [answerCount 0, answerCount 2, answerCount 0, answerCount 0])).flatten ++ [answerCount 0]

theorem witness_ImmediateReplyIsDelivered : Inv (presented immediate) ∧ (presented immediate).st = .idle ∧
    (presented immediate).configured = true ∧
    (presented immediate).hostIn =
      [{ act := .command { opr := 11, operands := fields 0x0100 4 1 [] }, reset := none }] ∧
    (fields 0x0100 4 1 []).wellFormed params = true ∧ fieldsAccepted params (fields 0x0100 4 1 []) ∧
    ([0x00, 0xA0, 0x53, 0xFF] : Bytes).length = (fields 0x0100 4 1 []).len ∧
    (fmtInt (fields 0x0100 4 1 []).fmt → widthOk params (fields 0x0100 4 1 []).len) ∧
    sumsTo85 (dataPayload 0x07 0x0100 [0x00, 0xA0, 0x53, 0xFF]) 0x5B ∧
    ¬ noisy params .read 4 (dataFrame 0x37 0x0100 [0x00, 0xA0, 0x53, 0xFF] 0x5B) ∧
    (presented immediate).chScript = [answerCount 0, answerCount 11, answerCount (11 + 2 * 4)] ++
      replyDraws (dataFrame 0x37 0x0100 [0x00, 0xA0, 0x53, 0xFF] 0x5B) ++ [answerCount 0, answerCount 0] := by
  refine ⟨inv_of_inputs idle_inv _ _, rfl, rfl, rfl, by decide, ?_, rfl, ?_, ?_, not_noisy (by decide) (by decide), rfl⟩
  · unfold fieldsAccepted fmtNamed
    decide
  · unfold fmtInt widthOk
    decide
  · unfold sumsTo85
    decide
theorem witness_SilentDeviceExhausts : Inv (presented silent) ∧ (presented silent).configured = true ∧ (presented silent).chScript =
      [answerCount 0] ++ (List.replicate 5 (silentAttempt params 11)).flatten ++ [ok] ∧
    (fields 0x0100 4 1 []).wellFormed params = true ∧ fieldsAccepted params (fields 0x0100 4 1 []) := by
  refine ⟨inv_of_inputs idle_inv _ _, rfl, rfl, by decide, ?_⟩
  unfold fieldsAccepted fmtNamed
  decide
theorem witness_NoiseOnEveryAttemptExhausts : Inv (presented tabs) ∧ (presented tabs).configured = true ∧
    (presented tabs).chScript = tabs ∧ (fields 0x0100 4 1 []).wellFormed params = true ∧
    fieldsAccepted params (fields 0x0100 4 1 []) ∧ ([0x09] : Bytes) ≠ [] ∧ ([0x09] : Bytes).length < params.nDrain ∧
    noisy params .read 4 [0x09] := by
  refine ⟨inv_of_inputs idle_inv _ _, rfl, rfl, by decide, ?_, by decide, by decide, Or.inr (Or.inr (Or.inl (by decide)))⟩
  unfold fieldsAccepted fmtNamed
  decide

theorem witness_ResultPortShowsTheRegisters : Inv idle ∧ idle.resultPort.resStatus ≠ 1 := ⟨idle_inv, by decide⟩

end Sys2Proof.Tests
end

section
/-! PROOFS. The family `10_state.md`: the acceptance of a command (rules R47, R297) and the reset values (rule R51). -/

namespace Sys2Proof.Machine

/-- Every operation is an acceptance followed by a meaning that sees only the accepted state. -/
theorem exec_eq_onAccept (i : Instr) : ∃ run : State → Result, ∀ s, exec i s = onAccept (encode i) s run := by
  cases i with
  | hexenc o => exact ⟨_, fun s => Eq.refl (execHexenc o s)⟩
  | hexdec o => exact ⟨_, fun s => Eq.refl (execHexdec o s)⟩
  | twosc o => exact ⟨_, fun s => Eq.refl (execTwosc o s)⟩
  | touns o => exact ⟨_, fun s => Eq.refl (execTouns o s)⟩
  | brev o => exact ⟨_, fun s => Eq.refl (execBrev o s)⟩
  | csum o => exact ⟨_, fun s => Eq.refl (execCsum o s)⟩
  | csumchk o => exact ⟨_, fun s => Eq.refl (execCsumchk o s)⟩
  | build o => exact ⟨_, fun s => Eq.refl (execBuild o s)⟩
  | parse o => exact ⟨_, fun s => Eq.refl (execParse o s)⟩
  | ping o => exact ⟨_, fun s => Eq.refl (execPing o s)⟩
  | restart o => exact ⟨_, fun s => Eq.refl (execRestart o s)⟩
  | read o => exact ⟨_, fun s => Eq.refl (execRead o s)⟩
  | write o => exact ⟨_, fun s => Eq.refl (execWrite o s)⟩
  | reserved13 o => exact ⟨_, fun s => Eq.refl (execReserved13 o s)⟩
  | reserved14 o => exact ⟨_, fun s => Eq.refl (execReserved14 o s)⟩
  | reserved15 o => exact ⟨_, fun s => Eq.refl (execReserved15 o s)⟩

/-- A second acceptance of the same command changes nothing: the first has overwritten what the state held before. -/
@[simp] theorem State.acceptCommand_acceptCommand (s : State) (c : Command) :
    (s.acceptCommand c).acceptCommand c = s.acceptCommand c := rfl

/-- In Idle an operation cannot tell its command presented from its command accepted. -/
theorem exec_acceptCommand (i : Instr) {s : State} (h : s.st = .idle) :
    exec i (s.acceptCommand (encode i)) = exec i s := by
  obtain ⟨run, hrun⟩ := exec_eq_onAccept i
  have ha : (s.acceptCommand (encode i)).st = .idle := h
  rw [hrun, hrun, onAccept_idle _ _ _ h, onAccept_idle _ _ _ ha, State.acceptCommand_acceptCommand]

@[simp] theorem State.finishUnit_cmd (s : State) (v : Verdict Value) : (s.finishUnit v).cmd = s.cmd := by
  cases v <;> simp

@[simp] theorem State.finishUnit_portAck (s : State) (v : Verdict Value) : (s.finishUnit v).portAck = s.portAck := by
  cases v <;> simp

@[simp] theorem State.openChannel_cmd (s : State) : s.openChannel.cmd = s.cmd := by
  obtain ⟨-, h⟩ | ⟨-, h⟩ := s.openChannel_cases <;> simp [h]

@[simp] theorem State.openChannel_portAck (s : State) : s.openChannel.portAck = s.portAck := by
  obtain ⟨-, h⟩ | ⟨-, h⟩ := s.openChannel_cases <;> simp [h]

/-- The start of a transaction, also one that fails at once, leaves the command latches and the acknowledgement. -/
theorem State.beginTransaction_keeps_command {s t : State} {k : Kind} (h : s.beginTransaction k = .next t) :
    t.cmd = s.cmd ∧ t.portAck = s.portAck := by
  obtain ⟨c, -, rfl⟩ | ⟨-, ⟨c, -, rfl⟩ | ⟨f, u, -, hu, rfl⟩⟩ := State.beginTransaction_eq_next.mp h
  · simp
  · simp
  · obtain ⟨-, rfl⟩ := State.storeFrame_eq_some.mp hu
    simp

/-- In Idle the command is latched and acknowledged, whatever comes of the operation (rule R47). -/
theorem exec_idle_latches {i : Instr} {s t : State} (hi : s.st = .idle) (h : exec i s = .next t) :
    t.cmd = encode i ∧ t.portAck = .accepted := by
  obtain ⟨hb, -⟩ | ⟨-, m, v, he⟩ | ⟨-, k, -, he⟩ := exec_shape i s
  · exact absurd hi hb
  · obtain rfl := Host.Outcome.next.inj (he.symm.trans h)
    simp
  · exact State.beginTransaction_keeps_command (he.symm.trans h)

/-- Outside Idle every operation is rejected (rule R47). -/
theorem exec_busy (i : Instr) {s : State} (h : s.st ≠ .idle) : exec i s = .next s.rejectCommand := by
  obtain ⟨run, hrun⟩ := exec_eq_onAccept i
  rw [hrun, onAccept_busy _ _ _ h]

/-- Settles O5: every operation is one acceptance and then a meaning of the accepted state, and acceptance is idempotent. -/
theorem commandAcceptedOnlyInIdle : Obligations.CommandAcceptedOnlyInIdle := by
  unfold Obligations.CommandAcceptedOnlyInIdle
  exact fun i s => ⟨exec_busy i, fun hi => ⟨(exec_acceptCommand i hi).symm, fun _ => exec_idle_latches hi⟩⟩

/-- Settles O7: each register is read off the reset state, and an empty buffer has no byte. -/
theorem resetStateHasResetValues : Obligations.ResetStateHasResetValues := by
  unfold Obligations.ResetStateHasResetValues
  constructor
  case txBytes => exact Memory.read_nil
  case rxBytes => exact Memory.read_nil
  all_goals rfl

end Sys2Proof.Machine
end

section
/-! PROOFS. The family `30_encoding.md`: a failure with no channel request (rule R296) and the reserved selectors
(rule R112). -/

namespace Sys2Proof.Machine

/-- A failure shows its code, and the kind the code has, in the result registers (rules R29, R282). -/
theorem State.fails_raiseFailure (s : State) (close : Bool) (code : FailCode) :
    (s.raiseFailure close code).fails (failKindOf code) code := by
  simp [State.fails, failRegs]

/-- A command accepted and then failed with no channel request leaves all but its latches and the buffers. -/
theorem failFrame_acceptCommand {s : State} (c : Command) (code : FailCode) :
    FailFrame c s ((s.acceptCommand c).raiseFailure false code) := by
  constructor
  case txBytes => exact Memory.read_nil
  case rxBytes => exact Memory.read_nil
  all_goals rfl

/-- A unit operation presented in Idle whose verdict is a failure delivers it (rules R130, R296). -/
theorem onAccept_finishUnit_fail {c : Command} {s : State} {v : State → Verdict Value} {code : FailCode}
    (hi : s.st = .idle) (hv : v (s.acceptCommand c) = .fail code) :
    ∃ t, onAccept c s (fun u => .next (u.finishUnit (v u))) = .next t ∧ t.fails (failKindOf code) code ∧
      FailFrame c s t := by
  refine ⟨(s.acceptCommand c).raiseFailure false code, ?_, State.fails_raiseFailure _ _ _, failFrame_acceptCommand c code⟩
  rw [onAccept_idle _ _ _ hi, hv, State.finishUnit_fail]

/-- An empty TXBUF has no byte (rules R37, R61). -/
theorem BufferInv.read_txBuf_eq_none {s : State} (h : BufferInv s) (h0 : s.txLen = 0) (a : Nat) :
    Memory.read s.txBuf a = none := by
  have hcell := h.txCells a
  simpa [h0] using hcell

/-- An empty RXBUF has no byte (rules R38, R61). -/
theorem BufferInv.read_rxBuf_eq_none {s : State} (h : BufferInv s) (h0 : s.rxLen = 0) (a : Nat) :
    Memory.read s.rxBuf a = none := by
  have hcell := h.rxCells a
  simpa [h0] using hcell

/-- The buffers a failure empties were empty already: in Idle the invariant leaves no frame and no capture, so here
step 4 of rule R296 changes nothing. -/
theorem FailFrame.sameBuffers {c : Command} {s t : State} (hf : FailFrame c s t) (h : Inv s) (hi : s.st = .idle) :
    SameTx s t ∧ SameRx s t := by
  have htx : s.txLen = 0 := h.idle.txEmpty hi
  have hrx : s.rxLen = 0 := h.idle.rxEmpty hi
  constructor
  · exact ⟨hf.txLen.trans htx.symm, fun a => (hf.txBytes a).trans (h.buffers.read_txBuf_eq_none htx a).symm⟩
  · exact ⟨hf.rxLen.trans hrx.symm, fun a => (hf.rxBytes a).trans (h.buffers.read_rxBuf_eq_none hrx a).symm⟩

/-- What the three reserved selectors have in common: ILLEGAL_OP, whatever was presented with them (rule R112). -/
theorem onAccept_illegalOp (c : Command) {s : State} (hi : s.st = .idle) :
    ∃ t, onAccept c s (fun u => .next (u.finishUnit (.fail .illegalOp))) = .next t ∧
      t.fails .illegalOperation .illegalOp ∧ FailFrame c s t ∧ (Inv s → SameTx s t ∧ SameRx s t) := by
  obtain ⟨t, ht, hfails, hframe⟩ := onAccept_finishUnit_fail (c := c) (v := fun _ => .fail .illegalOp) hi rfl
  exact ⟨t, ht, hfails, hframe, fun h => hframe.sameBuffers h hi⟩

/-- Settles O39: each reserved selector is one acceptance whose verdict is ILLEGAL_OP. -/
theorem reservedSelectorsFail : Obligations.ReservedSelectorsFail := by
  unfold Obligations.ReservedSelectorsFail
  exact fun _ _ hi => ⟨onAccept_illegalOp _ hi, onAccept_illegalOp _ hi, onAccept_illegalOp _ hi⟩

end Sys2Proof.Machine
end

section
/-! PROOFS. The family `40_codec_ops.md`: a result with no channel request (rule R130), HEXENC (R131), HEXDEC (R133),
the big-endian signed reading (R15) and TWOSC (R135), byte reversal (R139 to R141). -/

namespace Sys2Proof.Machine

/-- A unit operation presented in Idle whose verdict is a value delivers it (rule R130). -/
theorem onAccept_finishUnit_ok {c : Command} {s : State} {v : State → Verdict Value} {tag : ResTag} {out : Bytes}
    (hi : s.st = .idle) (hv : v (s.acceptCommand c) = .ok { tag := tag, data := out }) :
    ∃ t, onAccept c s (fun u => .next (u.finishUnit (v u))) = .next t ∧ t.delivers tag out ∧ t.csw = false ∧
      UnitFrame c s t := by
  refine ⟨(s.acceptCommand c).deliverUnit tag out, ?_, ⟨rfl, rfl, rfl, rfl, rfl⟩, rfl, ?_⟩
  · rw [onAccept_idle _ _ _ hi, hv, State.finishUnit_ok]
  · constructor
    case txBytes => exact fun _ => rfl
    case rxBytes => exact fun _ => rfl
    all_goals rfl

/-! Byte reversal. -/

/-- The Boolean membership test of REV_OK is the membership the statements speak of (rules R10, R140). -/
theorem revOk_iff (p : Params) (n : Nat) : revOk p n = true ↔ widthOk p n := by
  by_cases h0 : n = 0
  · simp [revOk, widthOk, h0]
  · simp [revOk, widthOk, h0, or_assoc]

theorem brev_of_widthOk {p : Params} {b : Bytes} (h : widthOk p b.length) : brev p b = some b.reverse :=
  if_pos ((revOk_iff p b.length).mpr h)

/-- Settles O24: reversal keeps the length, so the reversed string is in REV_OK too and reverses back. -/
theorem brevIsAnInvolution : Obligations.BrevIsAnInvolution := by
  unfold Obligations.BrevIsAnInvolution
  intro p b h
  have hlen : b.reverse.length = b.length := List.length_reverse
  have hback : brev p b.reverse = some b.reverse.reverse := brev_of_widthOk (hlen ▸ h)
  exact ⟨b.reverse, brev_of_widthOk h, hlen, by rw [hback, List.reverse_reverse]⟩

/-! HEXENC. -/

/-- The two characters of byte `i` stand at the indices `2 i` and `2 i + 1`, high nibble first (rule R131). -/
theorem getElem?_hexenc {bs : Bytes} {i : Nat} {b : Byte} (h : bs[i]? = some b) :
    (hexenc bs)[2 * i]? = some (hexchar (b.extractLsb' 4 4)) ∧
      (hexenc bs)[2 * i + 1]? = some (hexchar (b.extractLsb' 0 4)) := by
  induction bs generalizing i with
  | nil => cases h
  | cons x xs ih =>
    cases i with
    | zero =>
      obtain rfl := Option.some.inj h
      exact ⟨rfl, rfl⟩
    | succ i => exact ih h

/-- Settles O17: the result is `hexenc` of the latched buffer, read off index by index. -/
theorem hexencDelivers : Obligations.HexencDelivers := by
  unfold Obligations.HexencDelivers
  intro s o hi
  obtain ⟨t, ht, hres, hcsw, hframe⟩ := onAccept_finishUnit_ok (c := { opr := 0, operands := o })
    (v := fun u => .ok { tag := .bytes, data := hexenc u.cmd.operands.abuf }) hi rfl
  exact ⟨t, hexenc o.abuf, ht, hres, hcsw, hframe, length_hexenc o.abuf, fun _ _ => getElem?_hexenc⟩

/-! HEXDEC. -/

/-- The byte of a pair is its high nibble times 16 plus its low nibble (rule R97). -/
theorem pairByte_toNat (x y : BitVec 4) : (pairByte x y).toNat = 16 * x.toNat + y.toNat := by
  calc (pairByte x y).toNat = x.toNat <<< 4 ||| y.toNat := BitVec.toNat_append x y
    _ = x.toNat <<< 4 + y.toNat := (Nat.shiftLeft_add_eq_or_of_lt y.isLt x.toNat).symm
    _ = 16 * x.toNat + y.toNat := by rw [Nat.shiftLeft_eq, Nat.mul_comm]

/-- A first pair with a character that is no hex digit fails (rule R133). -/
theorem hexdecPairs_of_bad_pair {h l : Byte} (rest : Bytes) (hbad : hexval h = none ∨ hexval l = none) :
    hexdecPairs (h :: l :: rest) = .fail .hexChar := by
  rw [hexdecPairs]
  split
  next x y hx hy => simp [hx, hy] at hbad
  next => rfl

/-- A first pair of hex digits puts its byte before what the rest decodes to. -/
theorem hexdecPairs_cons_ok {h l : Byte} {x y : BitVec 4} {rest bs : Bytes} (hx : hexval h = some x)
    (hy : hexval l = some y) (hrest : hexdecPairs rest = .ok bs) :
    hexdecPairs (h :: l :: rest) = .ok (pairByte x y :: bs) := by
  simp only [hexdecPairs, hx, hy, hrest]

/-- A first pair of hex digits passes on the failure of the rest. -/
theorem hexdecPairs_cons_fail {h l : Byte} {x y : BitVec 4} {rest : Bytes} {c : FailCode} (hx : hexval h = some x)
    (hy : hexval l = some y) (hrest : hexdecPairs rest = .fail c) : hexdecPairs (h :: l :: rest) = .fail c := by
  simp only [hexdecPairs, hx, hy, hrest]

/-- Of an even number of characters, one that is no hex digit fails the scan, wherever it stands (rule R133). -/
theorem hexdecPairs_of_bad_char : ∀ a : Bytes, a.length % 2 = 0 → (∃ c ∈ a, hexval c = none) →
    hexdecPairs a = .fail .hexChar
  | [], _, ⟨_, hc, _⟩ => absurd hc List.not_mem_nil
  | [_], heven, _ => absurd heven (by simp)
  | h :: l :: rest, heven, hbad => by
    cases hx : hexval h with
    | none => exact hexdecPairs_of_bad_pair rest (.inl hx)
    | some x =>
      cases hy : hexval l with
      | none => exact hexdecPairs_of_bad_pair rest (.inr hy)
      | some y =>
        have hrest : ∃ c ∈ rest, hexval c = none := by simpa [hx, hy] using hbad
        have hrestEven : rest.length % 2 = 0 := (Nat.add_mod_right rest.length 2).symm.trans heven
        exact hexdecPairs_cons_fail hx hy (hexdecPairs_of_bad_char rest hrestEven hrest)

/-- Byte `i` of `bs` is what the characters `2 i` and `2 i + 1` of `a` encode, high nibble first (rule R133). -/
def PairDecodes (a bs : Bytes) (i : Nat) : Prop :=
  ∃ h l x y b, a[2 * i]? = some h ∧ a[2 * i + 1]? = some l ∧ hexval h = some x ∧ hexval l = some y ∧
    bs[i]? = some b ∧ b.toNat = 16 * x.toNat + y.toNat

/-- The first pair decodes to the byte it encodes; the others stand one byte and two characters further on. -/
theorem pairDecodes_cons {h l : Byte} {x y : BitVec 4} {rest bs : Bytes} (hx : hexval h = some x)
    (hy : hexval l = some y) (ih : ∀ i, i < bs.length → PairDecodes rest bs i) :
    ∀ i, i < (pairByte x y :: bs).length → PairDecodes (h :: l :: rest) (pairByte x y :: bs) i
  | 0, _ => ⟨h, l, x, y, pairByte x y, rfl, rfl, hx, hy, rfl, pairByte_toNat x y⟩
  | i + 1, hi => ih i (Nat.lt_of_succ_lt_succ hi)

/-- An even number of hex digits decodes to one byte for each pair (rule R133). -/
theorem hexdecPairs_of_digits : ∀ a : Bytes, a.length % 2 = 0 → (∀ c ∈ a, hexval c ≠ none) →
    ∃ bs, hexdecPairs a = .ok bs ∧ bs.length = a.length / 2 ∧ ∀ i, i < bs.length → PairDecodes a bs i
  | [], _, _ => ⟨[], rfl, rfl, fun _ hi => absurd hi (Nat.not_lt_zero _)⟩
  | [_], heven, _ => absurd heven (by simp)
  | h :: l :: rest, heven, hgood => by
    obtain ⟨hh, hl, hrest⟩ : hexval h ≠ none ∧ hexval l ≠ none ∧ ∀ c ∈ rest, hexval c ≠ none := by
      simpa using hgood
    obtain ⟨x, hx⟩ := Option.ne_none_iff_exists'.mp hh
    obtain ⟨y, hy⟩ := Option.ne_none_iff_exists'.mp hl
    have hrestEven : rest.length % 2 = 0 := (Nat.add_mod_right rest.length 2).symm.trans heven
    obtain ⟨bs, hok, hlen, hpairs⟩ := hexdecPairs_of_digits rest hrestEven hrest
    refine ⟨pairByte x y :: bs, hexdecPairs_cons_ok hx hy hok, ?_, pairDecodes_cons hx hy hpairs⟩
    simp only [List.length_cons, hlen]
    omega

theorem hexdec_of_odd {a : Bytes} (h : a.length % 2 = 1) : hexdec a = .fail .hexOdd := if_pos h

theorem hexdec_of_even {a : Bytes} (h : a.length % 2 = 0) : hexdec a = hexdecPairs a := if_neg (by omega)

theorem hexdecValue_of_ok {a bs : Bytes} (h : hexdec a = .ok bs) :
    hexdecValue a = .ok { tag := .bytes, data := bs } := by
  simp only [hexdecValue, h]

theorem hexdecValue_of_fail {a : Bytes} {c : FailCode} (h : hexdec a = .fail c) : hexdecValue a = .fail c := by
  simp only [hexdecValue, h]

/-- HEXDEC in Idle delivers the failure of `hexdec`. -/
theorem execHexdec_fail {o : Operands} {s : State} {code : FailCode} (hi : s.st = .idle)
    (h : hexdec o.abuf = .fail code) : ∃ t, exec (.hexdec o) s = .next t ∧ t.fails (failKindOf code) code ∧
      FailFrame { opr := 1, operands := o } s t :=
  onAccept_finishUnit_fail (v := fun u => hexdecValue u.cmd.operands.abuf) hi (hexdecValue_of_fail h)

/-- Settles O18: the length is checked first; the scan of an even length is an induction over its pairs. -/
theorem hexdecDecodesOrFails : Obligations.HexdecDecodesOrFails := by
  unfold Obligations.HexdecDecodesOrFails
  intro s o hi
  refine ⟨fun hodd => ?_, fun heven hbad => ?_, fun heven hgood => ?_⟩
  · exact execHexdec_fail hi (hexdec_of_odd hodd)
  · exact execHexdec_fail hi ((hexdec_of_even heven).trans (hexdecPairs_of_bad_char o.abuf heven hbad))
  · obtain ⟨bs, hok, hlen, hpairs⟩ := hexdecPairs_of_digits o.abuf heven hgood
    obtain ⟨t, ht, hres, hcsw, hframe⟩ := onAccept_finishUnit_ok (c := { opr := 1, operands := o })
      (v := fun u => hexdecValue u.cmd.operands.abuf) hi (hexdecValue_of_ok ((hexdec_of_even heven).trans hok))
    exact ⟨t, bs, ht, hres, hcsw, hframe, hlen, hpairs⟩

/-! The big-endian readings of a byte string, and what they read of the representation an INT result carries. -/

theorem unsignedBe_concat (b : Bytes) (x : Byte) : unsignedBe (b ++ [x]) = 256 * unsignedBe b + x.toNat := by
  simp [unsignedBe]

theorem two_pow_eight_mul_succ (n : Nat) : 2 ^ (8 * (n + 1)) = 256 * 2 ^ (8 * n) := by
  rw [Nat.mul_succ, Nat.pow_add, Nat.mul_comm]

/-- The first byte is the most significant (rule R15). -/
theorem unsignedBe_cons (x : Byte) (b : Bytes) :
    unsignedBe (x :: b) = x.toNat * 2 ^ (8 * b.length) + unsignedBe b := by
  induction b using List.reverseRecOn with
  | nil => simp [unsignedBe]
  | append_singleton b y ih =>
    rw [← List.cons_append, unsignedBe_concat, unsignedBe_concat, ih, List.length_append, List.length_singleton,
      two_pow_eight_mul_succ]
    ring

theorem unsignedBe_lt (b : Bytes) : unsignedBe b < 2 ^ (8 * b.length) := by
  induction b using List.reverseRecOn with
  | nil => simp [unsignedBe]
  | append_singleton b y ih =>
    rw [unsignedBe_concat, List.length_append, List.length_singleton, two_pow_eight_mul_succ]
    have hy : y.toNat < 256 := y.isLt
    omega

/-- The sign bit of a byte string is set exactly where its unsigned reading is in the upper half of the range. -/
theorem signBit_iff (x : Byte) (b : Bytes) :
    x.getLsbD 7 = true ↔ 2 ^ (8 * b.length + 7) ≤ unsignedBe (x :: b) := by
  have hbit : x.getLsbD 7 = decide (128 ≤ x.toNat) :=
    (BitVec.msb_eq_getLsbD_last x).symm.trans (BitVec.msb_eq_decide x)
  have hrest : unsignedBe b < 2 ^ (8 * b.length) := unsignedBe_lt b
  rw [hbit, decide_eq_true_iff, unsignedBe_cons, Nat.pow_add, Nat.mul_comm (2 ^ (8 * b.length))]
  constructor
  · intro h
    exact Nat.le_add_right_of_le (Nat.mul_le_mul_right _ h)
  · intro h
    have hlt : 128 * 2 ^ (8 * b.length) < (x.toNat + 1) * 2 ^ (8 * b.length) := by
      rw [Nat.add_mul x.toNat 1, Nat.one_mul]
      omega
    exact Nat.lt_succ_iff.mp (Nat.lt_of_mul_lt_mul_right hlt)

/-- The signed reading is the unsigned one, balanced modulo the range of the string (rule R15). -/
theorem signedBe_eq_bmod (b : Bytes) : signedBe b = Int.bmod (unsignedBe b) (2 ^ (8 * b.length)) := by
  cases b with
  | nil => rfl
  | cons x b =>
    have hlt : unsignedBe (x :: b) < 2 ^ (8 * (x :: b).length) := unsignedBe_lt (x :: b)
    have hhalf : 2 ^ (8 * (x :: b).length) = 2 * 2 ^ (8 * b.length + 7) := Nat.pow_succ'
    have hmod : (unsignedBe (x :: b) : Int) % (2 ^ (8 * (x :: b).length) : Nat) = unsignedBe (x :: b) :=
      Int.emod_eq_of_lt (Int.natCast_nonneg _) (Int.ofNat_lt.mpr hlt)
    rw [Int.bmod_def, hmod]
    by_cases hx : x.getLsbD 7 = true
    · have hhigh := (signBit_iff x b).mp hx
      rw [signedBe, List.headD_cons, if_pos hx, if_neg (by omega), Nat.cast_pow, Nat.cast_ofNat]
    · have hlow := mt (signBit_iff x b).mpr hx
      rw [signedBe, List.headD_cons, if_neg hx, if_pos (by omega)]

theorem length_beBytes (n : Nat) (x : Int) : (beBytes n x).length = n := by
  induction n generalizing x with
  | zero => rfl
  | succ n ih => rw [beBytes, List.length_append, ih, List.length_singleton]

/-- The last base-256 digit and the digits before it make up a remainder modulo one digit more. -/
theorem ediv_emod_add_emod (x : Int) (m : Nat) :
    256 * (x / 256 % (m : Int)) + x % 256 = x % (256 * (m : Int)) := by
  rw [Int.emod_def (x / 256), Int.emod_def x 256, Int.emod_def x (256 * m),
    Int.ediv_ediv_of_nonneg (by decide : (0 : Int) ≤ 256)]
  ring

/-- The representation in `n` bytes reads, unsigned, as the integer modulo `2^(8 n)` (rule R28). -/
theorem unsignedBe_beBytes (n : Nat) (x : Int) : (unsignedBe (beBytes n x) : Int) = x % (2 ^ (8 * n) : Nat) := by
  induction n generalizing x with
  | zero => simp [beBytes, unsignedBe]
  | succ n ih =>
    have hdigit : ((BitVec.ofInt 8 x).toNat : Int) = x % 256 := by
      rw [BitVec.toNat_ofInt]
      exact Int.toNat_of_nonneg (Int.emod_nonneg x (by decide))
    rw [beBytes, unsignedBe_concat, Nat.cast_add, Nat.cast_mul, ih, hdigit, two_pow_eight_mul_succ, Nat.cast_mul]
    exact ediv_emod_add_emod x _

/-- The representation in `n` bytes reads, signed, as the integer itself where that is in the range of `w` bits and
the bytes hold at least these (rules R15, R28). -/
theorem signedBe_beBytes {n w : Nat} {x : Int} (hw : w + 1 ≤ 8 * n) (hlo : -(2 ^ w : Int) ≤ x) (hhi : x < 2 ^ w) :
    signedBe (beBytes n x) = x := by
  rw [signedBe_eq_bmod, length_beBytes, unsignedBe_beBytes, Int.emod_bmod]
  have hrange : (2 : Int) * 2 ^ w ≤ (2 ^ (8 * n) : Nat) := by
    rw [Nat.cast_pow, Nat.cast_ofNat, ← Int.pow_succ']
    exact pow_le_pow_right₀ (by decide) hw
  exact Int.bmod_eq_of_le (by omega) (by omega)

/-! TWOSC. -/

/-- The width check by the logarithm is the plain bound (rules R25, R26). -/
theorem fitsBits_iff (n w : Nat) : fitsBits n w = true ↔ n < 2 ^ w := by
  by_cases h0 : n = 0
  · simp [fitsBits, h0]
  · simp [fitsBits, h0, Nat.log2_lt h0]

theorem twoscInRange_iff (p : Params) (o : Operands) :
    twoscInRange p o = true ↔ 1 ≤ o.aw ∧ o.aw ≤ p.twMax ∧ o.av < 2 ^ o.aw := by
  simp only [twoscInRange, Bool.and_eq_true, decide_eq_true_eq, fitsBits_iff, and_assoc]

/-- `twosc` by the sign bit read off the number with a division (rule R135). -/
theorem twosc_eq_ite (v w : Nat) : twosc v w = if v / 2 ^ (w - 1) % 2 = 1 then (v : Int) - 2 ^ w else v := by
  simp only [twosc, Nat.testBit_eq_decide_div_mod_eq, decide_eq_true_eq]

/-- In a number of `w` bits the sign bit is set exactly in the upper half of the range. -/
theorem div_two_pow_mod_two_eq_one_iff {v w : Nat} (hv : v < 2 ^ (w + 1)) : v / 2 ^ w % 2 = 1 ↔ 2 ^ w ≤ v := by
  have hquot : v / 2 ^ w < 2 := Nat.div_lt_of_lt_mul (by rwa [← Nat.pow_succ])
  have hpos : 0 < v / 2 ^ w ↔ 2 ^ w ≤ v := Nat.div_pos_iff.trans (and_iff_right (Nat.two_pow_pos w))
  rw [Nat.mod_eq_of_lt hquot, ← hpos]
  exact ⟨fun h => h ▸ Nat.one_pos, fun h => Nat.le_antisymm (Nat.le_of_lt_succ hquot) h⟩

/-- `twosc` of a number of the width subtracts in the upper half of the range (rule R135). -/
theorem twosc_of_lt {v w : Nat} (hw : 1 ≤ w) (hv : v < 2 ^ w) :
    twosc v w = if 2 ^ (w - 1) ≤ v then (v : Int) - 2 ^ w else v := by
  obtain ⟨w, rfl⟩ := Nat.exists_eq_add_of_le' hw
  rw [twosc_eq_ite, Nat.add_sub_cancel]
  simp only [div_two_pow_mod_two_eq_one_iff hv]

/-- `twosc` of a number of the width is in the signed range of the width. -/
theorem twosc_range {v w : Nat} (hw : 1 ≤ w) (hv : v < 2 ^ w) :
    -(2 ^ (w - 1) : Int) ≤ twosc v w ∧ twosc v w < 2 ^ (w - 1) := by
  obtain ⟨w, rfl⟩ := Nat.exists_eq_add_of_le' hw
  rw [twosc_of_lt hw hv, Nat.add_sub_cancel, Int.pow_succ']
  rw [Nat.pow_succ'] at hv
  have hcast : ((2 ^ w : Nat) : Int) = 2 ^ w := Nat.cast_pow 2 w
  split <;> omega

/-- Settles O19: in range `twosc` stays in the signed range of AW bits, which `ceil(AW / 8)` bytes hold. -/
theorem twoscConvertsOrFails : Obligations.TwoscConvertsOrFails := by
  unfold Obligations.TwoscConvertsOrFails
  refine ⟨fun v w _ => twosc_eq_ite v w, fun s o hi => ⟨fun hpos hmax hv => ?_, fun hout => ?_⟩⟩
  · have hval : twoscValue s.params o = .ok { tag := .int, data := beBytes ((o.aw + 7) / 8) (twosc o.av o.aw) } :=
      if_pos ((twoscInRange_iff s.params o).mpr ⟨hpos, hmax, hv⟩)
    obtain ⟨t, ht, hres, hcsw, hframe⟩ := onAccept_finishUnit_ok (c := { opr := 2, operands := o })
      (v := fun u => twoscValue u.params u.cmd.operands) hi hval
    obtain ⟨hlo, hhi⟩ := twosc_range hpos hv
    refine ⟨t, _, ht, hres, hcsw, hframe, length_beBytes _ _, ?_⟩
    rw [signedBe_beBytes (by omega) hlo hhi, twosc_of_lt hpos hv]
  · have hval : twoscValue s.params o = .fail .operandRange := by
      refine if_neg fun h => ?_
      obtain ⟨hpos, hmax, hv⟩ := (twoscInRange_iff s.params o).mp h
      omega
    exact onAccept_finishUnit_fail (c := { opr := 2, operands := o })
      (v := fun u => twoscValue u.params u.cmd.operands) hi hval

end Sys2Proof.Machine
end

section
/-! PROOFS. The family `41_checksum.md`: the accumulator form of `checksum` (rule R152), its sum form (rule R154 law 4)
and CSUMCHK (rule R155). -/

namespace Sys2Proof.Machine

/-- One subtraction of the 8-bit accumulator, moved to the other side as an addition modulo 256. -/
theorem mod_eq_toNat_sub_iff (n : Nat) (acc b : Byte) :
    n % 256 = (acc - b).toNat ↔ (b.toNat + n) % 256 = acc.toNat := by
  have hacc : acc.toNat < 256 := acc.isLt
  have hb : b.toNat < 256 := b.isLt
  rw [BitVec.toNat_sub]
  omega

/-- What is left in the accumulator and the bytes subtracted from it make up, modulo 256, the value it started from. -/
theorem foldl_sub_eq_iff (P : Bytes) (acc c : Byte) :
    P.foldl (fun a b => a - b) acc = c ↔ ((P.map BitVec.toNat).sum + c.toNat) % 256 = acc.toNat := by
  induction P generalizing acc with
  | nil =>
    have hc : c.toNat % 256 = c.toNat := Nat.mod_eq_of_lt c.isLt
    rw [List.foldl_nil, List.map_nil, List.sum_nil, Nat.zero_add, hc, eq_comm, BitVec.toNat_inj]
  | cons x P ih => rw [List.foldl_cons, ih, mod_eq_toNat_sub_iff, List.map_cons, List.sum_cons, Nat.add_assoc]

/-- The accumulator starts at 85, so the checksum is the byte of the sum form (rules R152, R154 law 4). -/
theorem checksum_eq_iff_sumsTo85 (P : Bytes) (c : Byte) : checksum P = c ↔ sumsTo85 P c :=
  foldl_sub_eq_iff P csumConst c

theorem csumchk_iff_sumsTo85 (P : Bytes) (c : Byte) : csumchk P c = true ↔ sumsTo85 P c :=
  beq_iff_eq.trans (checksum_eq_iff_sumsTo85 P c)

/-- The byte of the BOOL result by the sum form (rules R28, R155). -/
theorem boolByte_csumchk (P : Bytes) (c : Byte) :
    boolByte (csumchk P c) = if ((P.map BitVec.toNat).sum + c.toNat) % 256 = 85 then 1 else 0 :=
  if_congr (csumchk_iff_sumsTo85 P c) rfl rfl

/-- Settles O26: the verdict is always a value, the byte of the comparison, which the sum form decides. -/
theorem csumchkDelivers : Obligations.CsumchkDelivers := by
  unfold Obligations.CsumchkDelivers
  intro s o hi
  rw [← boolByte_csumchk]
  exact onAccept_finishUnit_ok (c := { opr := 6, operands := o })
    (v := fun u => .ok { tag := .bool, data := [boolByte (csumchk u.cmd.operands.abuf u.cmd.operands.ac)] }) hi rfl

end Sys2Proof.Machine
end

section
/-! PROOFS. The family `42_frame_build.md`: the checks on the fields (rules R111, R113), the frames PING, RESTART and
READREQ (rules R166 to R169) and what BUILD delivers of them (rule R174). -/

namespace Sys2Proof.Machine

/-! The checks on the fields. -/

/-- The codes the decoder of FMT leaves without a format are the reserved ones (rules R24, R111). -/
theorem ofBits_eq_none_iff (fmt : BitVec 3) : Format.ofBits fmt = none ↔ ¬ fmtNamed fmt := by
  unfold fmtNamed
  revert fmt
  decide

theorem fieldFailure_of_fieldsAccepted {p : Params} {o : Operands} (h : fieldsAccepted p o) :
    fieldFailure p o = none := by
  obtain ⟨hfmt, hlen⟩ := h
  have hnamed : ¬ Format.ofBits o.fmt = none := fun hnone => (ofBits_eq_none_iff o.fmt).mp hnone hfmt
  rw [fieldFailure, if_neg hnamed, if_neg (Nat.not_lt.mpr hlen)]

/-! The frames. -/

/-- CMD_PING is a character rule R10 allows: the parameter where it may be, else `1`. -/
theorem pingCharAllowed_cmdPing (p : Params) : pingCharAllowed (cmdPing p) = true := by
  rw [cmdPing]
  split
  next h => exact h
  next => decide

theorem ne_of_pingCharAllowed {c d : Byte} (hc : pingCharAllowed c = true) (hd : pingCharAllowed d = false) :
    c ≠ d := by
  rintro rfl
  exact absurd hc (hd ▸ Bool.false_ne_true)

/-- Encoding goes byte by byte, so it distributes over concatenation (rule R131). -/
theorem hexenc_append (a b : Bytes) : hexenc (a ++ b) = hexenc a ++ hexenc b := by
  induction a with
  | nil => rfl
  | cons x a ih => simp [hexenc, ih]

/-- The frame around register, flags and data is the frame of rules R94 and R95 with the checksum of its payload (rule
R101). -/
theorem framed_eq_dataFrame (cmdChar cmd : Byte) (reg : BitVec 16) (w : Bytes) :
    framed cmdChar cmd (wireReg reg ++ [flagsSent] ++ w) =
      dataFrame cmdChar reg w (checksum (dataPayload cmd reg w)) := by
  have hfields : wireReg reg ++ [flagsSent] ++ w = [reg.extractLsb' 0 8, reg.extractLsb' 8 8, 0x00] ++ w := rfl
  have hpayload : cmd :: ([reg.extractLsb' 0 8, reg.extractLsb' 8 8, 0x00] ++ w) = dataPayload cmd reg w := rfl
  simp only [framed, dataFrame, hfields, hpayload, hexenc_append, List.append_assoc, markerByte, termByte]

/-- A field of a field is a field of the whole. -/
theorem extractLsb'_extractLsb'_of_add_le {v i m j n : Nat} (x : BitVec v) (h : j + n ≤ m) :
    (x.extractLsb' i m).extractLsb' j n = x.extractLsb' (i + j) n := by
  ext k hk
  have hkm : j + k < m := by omega
  simp [hkm, Nat.add_assoc]

/-- A frame with no data and the command character `7` is READREQ, character by character (rules R93, R169): the
nibbles of the register's bytes are nibbles of the register. -/
theorem dataFrame_nil_eq_readFrame (reg : BitVec 16) (c : Byte) : dataFrame 0x37 reg [] c = readFrame reg c := by
  have hflag : hexchar 0#4 = 0x30 := by decide
  simp [dataFrame, readFrame, hexenc, hexPair, hflag, extractLsb'_extractLsb'_of_add_le]

/-- The READ frame of the builder is READREQ with the checksum of its payload (rules R167, R169). -/
theorem build_read (p : Params) (o : Operands) :
    build p .read o = .ok (readFrame o.reg (checksum (dataPayload 0x07 o.reg []))) := by
  rw [← dataFrame_nil_eq_readFrame, ← framed_eq_dataFrame, List.append_nil]
  rfl

/-! BUILD. -/

/-- With its checks passed, BUILD's value is the frame of the kind SUB names (rule R174). -/
theorem buildValue_of_build {p : Params} {o : Operands} {k : Kind} {f : Bytes} (hk : Kind.ofSub o.sub = k)
    (haccept : acceptFailure p k o = none) (hf : build p k o = .ok f) :
    buildValue p o = .ok { tag := .bytes, data := f } := by
  subst hk
  simp only [buildValue, haccept, hf]

/-- BUILD in Idle delivers the frame of the kind SUB names and leaves the buffers alone (rules R130, R174). -/
theorem execBuild_ok {o : Operands} {s : State} {k : Kind} {f : Bytes} (hi : s.st = .idle)
    (hk : Kind.ofSub o.sub = k) (haccept : acceptFailure s.params k o = none) (hf : build s.params k o = .ok f) :
    ∃ t, exec (.build o) s = .next t ∧ t.delivers .bytes f ∧ t.csw = false ∧
      UnitFrame { opr := 7, operands := o } s t :=
  onAccept_finishUnit_ok (v := fun u => buildValue u.params u.cmd.operands) hi (buildValue_of_build hk haccept hf)

/-- Settles O28: PING and RESTART have no checks, and CMD_PING is an allowed character, which `6`, `7` and `8` are not. -/
theorem buildShortFrames : Obligations.BuildShortFrames := by
  unfold Obligations.BuildShortFrames
  intro s o hi
  constructor
  · intro hsub
    have hk : Kind.ofSub o.sub = .ping := congrArg Kind.ofSub hsub
    have hchar : pingCharAllowed (cmdPing s.params) = true := pingCharAllowed_cmdPing s.params
    obtain ⟨t, ht, hres, hcsw, hframe⟩ := execBuild_ok (f := shortFrame (cmdPing s.params)) hi hk rfl rfl
    exact ⟨t, cmdPing s.params, ht, hres, rfl, ne_of_pingCharAllowed hchar rfl, ne_of_pingCharAllowed hchar rfl,
      ne_of_pingCharAllowed hchar rfl, hcsw, hframe⟩
  · intro hsub
    have hk : Kind.ofSub o.sub = .restart := congrArg Kind.ofSub hsub
    exact execBuild_ok (f := shortFrame 0x36) hi hk rfl rfl

/-- Settles O29: the accepted READ builds READREQ, and the calculator's checksum is the byte of the sum form. -/
theorem buildReadFrame : Obligations.BuildReadFrame := by
  unfold Obligations.BuildReadFrame
  intro s o hi hsub haccepted
  have hk : Kind.ofSub o.sub = .read := congrArg Kind.ofSub hsub
  obtain ⟨t, ht, hres, hcsw, hframe⟩ :=
    execBuild_ok hi hk (fieldFailure_of_fieldsAccepted haccepted) (build_read s.params o)
  exact ⟨t, _, ht, hres, hcsw, hframe, (checksum_eq_iff_sumsTo85 _ _).mp rfl⟩

end Sys2Proof.Machine
end

section
/-! PROOFS. The family `43_frame_parse.md`: the hex fields of a reply (rules R133, R189), the parser's checks before the
flip, one by one (rules R187 to R194), and how PARSE delivers a failure (rules R206, R296). -/

namespace Sys2Proof.Machine

/-! What decodes is what was encoded. -/

/-- The digit of a nibble has that nibble's value (rule R15). -/
theorem hexval_hexchar (n : BitVec 4) : hexval (hexchar n) = some n := by
  revert n
  decide

/-- A hex digit is the upper-case digit of its value: no other character has it (rule R15). -/
theorem hexchar_of_hexval {c : Byte} {n : BitVec 4} (h : hexval c = some n) : hexchar n = c := by
  have hdigit : ∀ c : Byte, ∀ n ∈ hexval c, hexchar n = c := by decide
  exact hdigit c n h

/-- The pair of a byte made of two nibbles is the pair of their digits (rule R97). -/
theorem hexPair_pairByte (x y : BitVec 4) : hexPair (pairByte x y) = [hexchar x, hexchar y] := by
  have hhigh : (x ++ y).extractLsb' 4 4 = x := BitVec.extractLsb'_append_eq_left
  have hlow : (x ++ y).extractLsb' 0 4 = y := BitVec.extractLsb'_append_eq_right
  rw [hexPair, pairByte, hhigh, hlow]

/-- A byte is made of its two nibbles. -/
theorem pairByte_extractLsb' (b : Byte) : pairByte (b.extractLsb' 4 4) (b.extractLsb' 0 4) = b := by
  have hjoin : b.extractLsb' (0 + 4) 4 ++ b.extractLsb' 0 4 = b.extractLsb' 0 8 :=
    BitVec.extractLsb'_append_extractLsb'_eq_extractLsb' rfl
  exact hjoin.trans BitVec.extractLsb'_eq_self

/-- Decoding undoes encoding (rules R131, R133). -/
theorem hexdecPairs_hexenc (bs : Bytes) : hexdecPairs (hexenc bs) = .ok bs := by
  induction bs with
  | nil => rfl
  | cons b bs ih =>
    have hpair := hexdecPairs_cons_ok (hexval_hexchar (b.extractLsb' 4 4)) (hexval_hexchar (b.extractLsb' 0 4)) ih
    rwa [pairByte_extractLsb'] at hpair

/-- What decodes is the encoding of what it decodes to (rules R131, R133). -/
theorem hexenc_of_hexdecPairs : ∀ {a bs : Bytes}, hexdecPairs a = .ok bs → hexenc bs = a
  | [], _, h => by
    cases h
    rfl
  | [_], _, h => by cases h
  | h :: l :: rest, bs, hok => by
    cases hx : hexval h with
    | none => cases (hexdecPairs_of_bad_pair rest (.inl hx)).symm.trans hok
    | some x =>
      cases hy : hexval l with
      | none => cases (hexdecPairs_of_bad_pair rest (.inr hy)).symm.trans hok
      | some y =>
        cases hrest : hexdecPairs rest with
        | fail c => cases (hexdecPairs_cons_fail hx hy hrest).symm.trans hok
        | ok ds =>
          obtain rfl := Verdict.ok.inj ((hexdecPairs_cons_ok hx hy hrest).symm.trans hok)
          rw [hexenc, hexPair_pairByte, hexchar_of_hexval hx, hexchar_of_hexval hy, hexenc_of_hexdecPairs hrest]
          rfl

/-! The hex fields of a reply. -/

/-- Whether a character of these is no hex digit, which fails their decoding (rule R189). -/
def hasBadDigit (a : Bytes) : Bool := a.any fun c => (hexval c).isNone

theorem hasBadDigit_iff (a : Bytes) : hasBadDigit a = true ↔ ∃ c ∈ a, hexval c = none := by
  simp only [hasBadDigit, List.any_eq_true, Option.isNone_iff_eq_none]

theorem hasBadDigit_append (a b : Bytes) :
    hasBadDigit (a ++ b) = true ↔ hasBadDigit a = true ∨ hasBadDigit b = true := by
  rw [hasBadDigit, List.any_append, Bool.or_eq_true]
  rfl

/-- An even number of characters decodes exactly where each is a hex digit (rule R133). -/
theorem hexdec_cases {a : Bytes} (heven : a.length % 2 = 0) :
    (hasBadDigit a = true ∧ hexdec a = .fail .hexChar) ∨
      (¬ hasBadDigit a = true ∧ ∃ bs, hexdec a = .ok bs ∧ hexenc bs = a) := by
  rw [hexdec_of_even heven]
  by_cases hbad : ∃ c ∈ a, hexval c = none
  · exact .inl ⟨(hasBadDigit_iff a).mpr hbad, hexdecPairs_of_bad_char a heven hbad⟩
  · have hgood : ∀ c ∈ a, hexval c ≠ none := fun c hc hnone => hbad ⟨c, hc, hnone⟩
    obtain ⟨bs, hok, -, -⟩ := hexdecPairs_of_digits a heven hgood
    exact .inr ⟨mt (hasBadDigit_iff a).mp hbad, bs, hok, hexenc_of_hexdecPairs hok⟩

theorem hexenc_injective : Function.Injective hexenc := by
  intro a b h
  exact Verdict.ok.inj ((hexdecPairs_hexenc a).symm.trans (h ▸ hexdecPairs_hexenc b))

/-- A field of whole pairs within the buffer decodes exactly where each of its characters is a hex digit, and then is
the encoding of the bytes it gives (rule R189). -/
theorem hexField_cases {buf : Bytes} {i n : Nat} (heven : n % 2 = 0) (hfits : i + n ≤ buf.length) :
    (hasBadDigit (slice buf i n) = true ∧ hexField buf i n = none) ∨
      (¬ hasBadDigit (slice buf i n) = true ∧ ∃ bs, hexField buf i n = some bs ∧ hexenc bs = slice buf i n) := by
  have hlen : (slice buf i n).length = n := by
    rw [slice, List.length_take, List.length_drop]
    omega
  obtain ⟨hbad, hfail⟩ | ⟨hdigits, bs, hok, henc⟩ := hexdec_cases (a := slice buf i n) (by rw [hlen, heven])
  · exact .inl ⟨hbad, by rw [hexField, hfail]⟩
  · exact .inr ⟨hdigits, bs, by rw [hexField, hok], henc⟩

/-! The checks, one by one. -/

/-- Step 1 looks at the last byte of the expected length (rule R190). -/
theorem terminator_ne_iff {buf : Bytes} {n : Nat} (hlong : replyLen n ≤ buf.length) :
    buf.getD (replyLen n - 1) 0 ≠ termByte ↔ buf[10 + 2 * n]? ≠ some 0x0A := by
  have hpos : replyLen n - 1 = 10 + 2 * n := by
    rw [replyLen]
    omega
  have hlt : 10 + 2 * n < buf.length := by
    rw [replyLen] at hlong
    omega
  rw [hpos, List.getD_eq_getElem?_getD, List.getElem?_eq_getElem hlt, Option.getD_some, termByte, Ne, Ne,
    Option.some_inj]

/-- Step 2 looks at the first two bytes (rule R191). -/
theorem command_ne_iff {buf : Bytes} {cmdChar : Byte} (hlong : 2 ≤ buf.length) :
    (buf.getD 0 0 ≠ markerByte ∨ buf.getD 1 0 ≠ cmdChar) ↔ buf.take 2 ≠ [0x3A, cmdChar] := by
  match buf, hlong with
  | x :: y :: rest, _ => simp [markerByte, imp_iff_not_or]

/-- Step 5 begins by decoding the data and the checksum, which stand side by side (rule R194). -/
theorem parseTail_of_hasBadDigit {p : Params} {cmd : Byte} {buf : Bytes} {o : Operands} {r g : Bytes}
    (hlong : replyLen o.len ≤ buf.length) (hbad : hasBadDigit (slice buf 8 (2 * o.len + 2)) = true) :
    parseTail p cmd buf o r g = parseFail .hexDigit := by
  rw [replyLen] at hlong
  have hsplit : slice buf 8 (2 * o.len + 2) = slice buf 8 (2 * o.len) ++ slice buf (8 + 2 * o.len) 2 := by
    rw [slice, List.take_add, List.drop_drop, slice, slice]
  rw [hsplit, hasBadDigit_append] at hbad
  obtain ⟨-, hdata⟩ | ⟨hdata, d, hd, -⟩ := hexField_cases (buf := buf) (i := 8) (n := 2 * o.len) (by omega) (by omega)
  · simp only [parseTail, hdata]
  · obtain ⟨-, hsum⟩ | ⟨hsum, -⟩ := hexField_cases (buf := buf) (i := 8 + 2 * o.len) (n := 2) rfl (by omega)
    · simp only [parseTail, hd, hsum]
    · exact absurd hbad (not_or.mpr ⟨hdata, hsum⟩)

/-- Steps 3 and 4 alike: a field that does not decode is HEXDIGIT, one that echoes other bytes than those sent fails
with the step's own code, and past both the parse has the bytes sent (rules R189, R192, R193). -/
theorem echoCheck_eq_ite {buf w : Bytes} {i n : Nat} {code : FailCode} {answer later : ParseResult} (heven : n % 2 = 0)
    (hfits : i + n ≤ buf.length) (hnone : hexField buf i n = none → answer = parseFail .hexDigit)
    (hother : ∀ r, hexField buf i n = some r → r ≠ w → answer = parseFail code)
    (hsent : hexField buf i n = some w → answer = later) :
    answer = if hasBadDigit (slice buf i n) = true then parseFail .hexDigit
      else if slice buf i n ≠ hexenc w then parseFail code
      else later := by
  obtain ⟨hbad, hr⟩ | ⟨hdigits, r, hr, henc⟩ := hexField_cases heven hfits
  · rw [if_pos hbad, hnone hr]
  · rw [if_neg hdigits, ← henc]
    by_cases hw : r = w
    · rw [if_neg (not_not.mpr (congrArg hexenc hw)), hsent (hw ▸ hr)]
    · rw [if_pos (hexenc_injective.ne hw), hother r hr hw]

/-- One check more in front: where it fails, its code is what the parse fails with. -/
theorem elim_ite_parseFail (q : Prop) [Decidable q] (c : FailCode) (later : Option FailCode) (next : ParseResult) :
    (if q then some c else later).elim next parseFail = if q then parseFail c else later.elim next parseFail :=
  apply_ite (fun f : Option FailCode => f.elim next parseFail) q (some c) later

/-- All the parse of a READ or WRITE reply can do before the flip: it fails with the first fault of the buffer, and
where there is none goes on to step 5 with the bytes that were sent (rules R187 to R194, R206). -/
theorem parseReply_eq_elim (p : Params) (cmdChar cmd : Byte) (buf : Bytes) (o : Operands) :
    parseReply p cmdChar cmd buf o =
      (firstReplyFault cmdChar o buf).elim (parseTail p cmd buf o (wireReg o.reg) [flagsSent]) parseFail := by
  have hreply : 11 + 2 * o.len = replyLen o.len := Nat.add_comm _ _
  simp only [parseReply, firstReplyFault, elim_ite_parseFail, Option.elim_none, hreply]
  refine ite_congr rfl (fun _ => rfl) fun hshort => ?_
  have hlong : replyLen o.len ≤ buf.length := Nat.not_lt.mp hshort
  refine ite_congr (propext (terminator_ne_iff hlong)) (fun _ => rfl) fun _ => ?_
  refine ite_congr (propext (command_ne_iff (by omega))) (fun _ => rfl) fun _ => ?_
  refine echoCheck_eq_ite (i := 2) (n := 4) (w := wireReg o.reg) rfl (by omega) (fun hr => by rw [hr])
    (fun r hr hne => by rw [hr]; exact if_pos hne) fun hr => ?_
  rw [hr]
  refine (if_neg (not_not.mpr rfl)).trans ?_
  refine echoCheck_eq_ite (i := 6) (n := 2) (w := [flagsSent]) rfl (by omega) (fun hg => by rw [hg])
    (fun g hg hne => by rw [hg]; exact if_pos hne) fun hg => ?_
  rw [hg]
  refine (if_neg (not_not.mpr rfl)).trans ?_
  by_cases hbad : hasBadDigit (slice buf 8 (2 * o.len + 2)) = true
  · exact (parseTail_of_hasBadDigit hlong hbad).trans (if_pos hbad).symm
  · exact (if_neg hbad).symm

/-- The faults before the flip are three of MalformedReply and three of EchoMismatch (rules R188 to R193, R282). -/
theorem kind_of_firstReplyFault {cmdChar : Byte} {o : Operands} {buf : Bytes} {c : FailCode}
    (h : firstReplyFault cmdChar o buf = some c) :
    ((c = .tooShort ∨ c = .terminator ∨ c = .hexDigit) ∧ failKindOf c = .malformedReply) ∨
      ((c = .echoCommand ∨ c = .echoRegister ∨ c = .echoFlags) ∧ failKindOf c = .echoMismatch) := by
  rw [firstReplyFault] at h
  repeat' split at h
  all_goals cases h <;> decide

/-! PARSE. -/

/-- PARSE in Idle delivers the failure of its checks or of the parse (rules R206, R296). -/
theorem execParse_fail {o : Operands} {s : State} {code : FailCode} (hi : s.st = .idle)
    (h : parseOperand s.params o = parseFail code) : ∃ t, exec (.parse o) s = .next t ∧
      t.fails (failKindOf code) code ∧ FailFrame { opr := 8, operands := o } s t := by
  refine ⟨(s.acceptCommand { opr := 8, operands := o }).raiseFailure false code, ?_, State.fails_raiseFailure _ _ _,
    failFrame_acceptCommand _ code⟩
  have hexec : exec (.parse o) s = onAccept { opr := 8, operands := o } s fun t =>
      .next ((t.noteCsw (parseOperand t.params t.cmd.operands).csw).finishUnit
        (parseOperand t.params t.cmd.operands).out) := rfl
  rw [hexec, onAccept_idle _ _ _ hi, State.acceptCommand_params, State.acceptCommand_cmd, h]
  rfl

/-- With its checks passed, PARSE answers what the parse of the buffer by the kind SUB names answers (rule R206). -/
theorem parseOperand_of_accepted {p : Params} {o : Operands} {k : Kind} (hk : Kind.ofSub o.sub = k)
    (haccept : acceptFailure p k o = none) : parseOperand p o = parse p k o.abuf o := by
  subst hk
  simp only [parseOperand, haccept]

/-- Settles O36: the parse of either kind fails with the first fault, whose code has its kind. -/
theorem parseReportsTheFirstFault : Obligations.ParseReportsTheFirstFault := by
  unfold Obligations.ParseReportsTheFirstFault
  intro s o c hi haccepted hfault
  have haccept : fieldFailure s.params o = none := fieldFailure_of_fieldsAccepted haccepted
  obtain ⟨cmdChar, cmd, hparse, hfirst⟩ : ∃ cmdChar cmd,
      parseOperand s.params o = parseReply s.params cmdChar cmd o.abuf o ∧
        firstReplyFault cmdChar o o.abuf = some c := by
    obtain ⟨hsub, hfirst⟩ | ⟨hsub, hfirst⟩ := hfault
    · exact ⟨0x37, 0x07, parseOperand_of_accepted (k := .read) (congrArg Kind.ofSub hsub) haccept, hfirst⟩
    · exact ⟨0x38, 0x08, parseOperand_of_accepted (k := .write) (congrArg Kind.ofSub hsub) haccept, hfirst⟩
  rw [parseReply_eq_elim, hfirst, Option.elim_some] at hparse
  obtain ⟨t, ht, hfails, hframe⟩ := execParse_fail hi hparse
  refine ⟨t, ht, hframe, ?_⟩
  obtain ⟨hc, hkind⟩ | ⟨hc, hkind⟩ := kind_of_firstReplyFault hfirst
  · exact .inl ⟨hc, hkind ▸ hfails⟩
  · exact .inr ⟨hc, hkind ▸ hfails⟩

end Sys2Proof.Machine
end

section
/-! PROOFS. The family `44_transaction_engine.md`: what one request draws and leaves (rules R44 to R46), the rows of the
transition table as equations (rule R221), the next attempt (rules R225, R227) and the end of a transaction by its
ChClose (rules R243, R245, R246, R303). -/

namespace Sys2Proof.Machine

/-! One request: its draw, its entry in the trace, and the frame. -/

/-- A request for a count that is not answered `error` answers the count of its draw. -/
theorem State.nextCount_of_no_error {s : State} {n : Nat} (he : (s.drawAt 0).error = false)
    (hn : (s.drawAt 0).count = n) : s.nextCount = some n := by
  simp [State.nextCount_eq, he, hn]

theorem State.log_request_chWrite {s : State} {n : Nat} (f : Bytes) (he : (s.drawAt 0).error = false)
    (hn : (s.drawAt 0).count = n) :
    (s.request (.chWrite f)).log = s.log ++ [.request (.chWrite f) (.count n)] := by
  simp [answerOf, State.nextDraw_eq_drawAt, he, hn]

theorem State.log_request_chAvail {s : State} {n : Nat} (he : (s.drawAt 0).error = false)
    (hn : (s.drawAt 0).count = n) : (s.request .chAvail).log = s.log ++ [.request .chAvail (.count n)] := by
  simp [answerOf, State.nextDraw_eq_drawAt, he, hn]

theorem State.log_request_chReadByte_nothing {s : State} (he : (s.drawAt 0).error = false)
    (hb : (s.drawAt 0).byte = none) :
    (s.request .chReadByte).log = s.log ++ [.request .chReadByte .nothing] := by
  simp [answerOf, State.nextDraw_eq_drawAt, he, hb]

theorem State.log_closeChannel (s : State) :
    s.closeChannel.log = s.log ++ [.request .chClose (if (s.drawAt 0).error then .error else .ok)] := by
  simp [answerOf, State.nextDraw_eq_drawAt]

/-- One request uses up one answer. -/
theorem consumed_request (s : State) (r : Request) : Consumed 1 s (s.request r) := by
  simp [Consumed]

/-- What is used up after a request comes on top of the answer of the request. -/
theorem Consumed.after_request {s t : State} {r : Request} {n : Nat} (h : Consumed n (s.request r) t) :
    Consumed (n + 1) s t := by
  obtain ⟨hscript, hdraws⟩ := h
  constructor
  · rw [hscript, State.request_chScript, List.drop_tail]
  · rw [hdraws, State.request_chDraws]
    omega

theorem EngineFrame.trans {s u t : State} (h : EngineFrame s u) (g : EngineFrame u t) : EngineFrame s t where
  cmd := g.cmd.trans h.cmd
  ack := g.ack.trans h.ack
  cfg := g.cfg.trans h.cfg
  params := g.params.trans h.params
  hostIn := g.hostIn.trans h.hostIn
  mark := g.mark.trans h.mark

theorem engineFrame_request (s : State) (r : Request) : EngineFrame s (s.request r) :=
  ⟨rfl, rfl, rfl, rfl, rfl, rfl⟩

theorem engineFrame_noteCsw (s : State) (m : Bool) : EngineFrame s (s.noteCsw m) :=
  ⟨rfl, rfl, rfl, rfl, rfl, rfl⟩

/-- A change of the engine's state and poll counter alone is no change of what the host and the build gave. -/
theorem engineFrame_phase (s : State) (x : EngineState) (n : Nat) :
    EngineFrame s { s with st := x, pcnt := n } :=
  ⟨rfl, rfl, rfl, rfl, rfl, rfl⟩

theorem SameTx.refl (s : State) : SameTx s s := ⟨rfl, fun _ => rfl⟩

theorem SameRx.refl (s : State) : SameRx s s := ⟨rfl, fun _ => rfl⟩

theorem SameResult.refl (s : State) : SameResult s s := ⟨rfl, rfl, rfl⟩

theorem CountersAre.refl (s : State) : CountersAre s s.att s.ccnt s.pcnt s.dcnt := ⟨rfl, rfl, rfl, rfl⟩

/-! The rows of the transition table (rule R221). -/

/-- While it is busy the engine makes the step of the transaction that OPR names. -/
theorem engineStep_busy {s : State} {k : Kind} (hb : s.st ≠ .idle) (hk : Kind.ofOpr s.cmd.opr = some k) :
    engineStep s = transactionStep k s := by
  simp [engineStep, (State.busy_iff s).mpr hb, hk]

theorem engineStep_sending {s : State} {k : Kind} (hst : s.st = .sending) (hk : Kind.ofOpr s.cmd.opr = some k) :
    engineStep s = sendStep k s := by
  simp [engineStep_busy (s := s) (by simp [hst]) hk, transactionStep, hst]

theorem engineStep_awaitingData {s : State} {k : Kind} (hst : s.st = .awaitingData)
    (hk : Kind.ofOpr s.cmd.opr = some k) : engineStep s = pollStep s := by
  simp [engineStep_busy (s := s) (by simp [hst]) hk, transactionStep, hst]

theorem engineStep_draining {s : State} {k : Kind} (hst : s.st = .draining) (hk : Kind.ofOpr s.cmd.opr = some k) :
    engineStep s = drainStep s := by
  simp [engineStep_busy (s := s) (by simp [hst]) hk, transactionStep, hst]

theorem engineStep_accepted {s : State} {k : Kind} (hst : s.st = .accepted) (hk : Kind.ofOpr s.cmd.opr = some k) :
    engineStep s = .next { s with st := .parsed } := by
  simp [engineStep_busy (s := s) (by simp [hst]) hk, transactionStep, hst]

theorem engineStep_exhausted {s : State} {k : Kind} (hst : s.st = .exhausted)
    (hk : Kind.ofOpr s.cmd.opr = some k) : engineStep s = exhaustedStep k s := by
  simp [engineStep_busy (s := s) (by simp [hst]) hk, transactionStep, hst]

theorem engineStep_parsed {s : State} {k : Kind} (hst : s.st = .parsed) (hk : Kind.ofOpr s.cmd.opr = some k) :
    engineStep s = parsedStep k s := by
  simp [engineStep_busy (s := s) (by simp [hst]) hk, transactionStep, hst]

/-! Sending. -/

/-- A frame taken whole is awaited, but for RESTART (rule R228). -/
theorem sendStep_whole {s : State} {k : Kind} {f : Bytes} (hk : k ≠ .restart) (hf : s.frame = some f)
    (hn : s.nextCount = some s.txLen) :
    sendStep k s = .next { s.request (.chWrite f) with st := .awaitingData } := by
  simp [sendStep, hf, hn, hk]

/-- A frame taken whole completes a RESTART (rule R243). -/
theorem sendStep_restart {s : State} {f : Bytes} (hf : s.frame = some f) (hn : s.nextCount = some s.txLen) :
    sendStep .restart s = .next (s.request (.chWrite f)).finishRestart := by
  simp [sendStep, hf, hn]

/-- A frame not taken whole ends the attempt, of every kind (rule R227). -/
theorem sendStep_short {s : State} {k : Kind} {f : Bytes} {n : Nat} (hf : s.frame = some f)
    (hn : s.nextCount = some n) (hne : n ≠ s.txLen) :
    sendStep k s = .next (s.request (.chWrite f)).nextAttempt := by
  simp [sendStep, hf, hn, hne]

/-- Settles O45: the one request is the write, and only the state of the engine changes with it. -/
theorem sendingWritesTheWholeFrame : Obligations.SendingWritesTheWholeFrame := by
  unfold Obligations.SendingWritesTheWholeFrame
  intro s k f hst hk hne hf he hn
  have hstep := (engineStep_sending hst hk).trans (sendStep_whole hne hf (State.nextCount_of_no_error he hn))
  exact ⟨_, hstep, rfl, State.log_request_chWrite f he hn, consumed_request s (.chWrite f), .refl s,
    (engineFrame_request s _).trans (engineFrame_phase _ _ _), .refl s, .refl s, .refl s⟩

/-- The next attempt makes no request and keeps the frame: it is a fresh Sending with an empty capture, or, after the
fifth, Exhausted with the capture as it stands (rules R225, R227, R242). -/
theorem State.nextAttempt_spec (s : State) :
    EngineFrame s s.nextAttempt ∧ SameTx s s.nextAttempt ∧ SameResult s s.nextAttempt ∧ s.nextAttempt.log = s.log ∧
      Consumed 0 s s.nextAttempt ∧
      (s.att < 5 → s.nextAttempt.st = .sending ∧ CountersAre s.nextAttempt (s.att + 1) s.ccnt 0 0 ∧
        s.nextAttempt.rxLen = 0 ∧ ∀ a, Memory.read s.nextAttempt.rxBuf a = none) ∧
      (5 ≤ s.att → s.nextAttempt.st = .exhausted ∧ CountersAre s.nextAttempt s.att s.ccnt s.pcnt s.dcnt ∧
        SameRx s s.nextAttempt) := by
  obtain ⟨hatt, hnext⟩ | ⟨hatt, hnext⟩ := s.nextAttempt_cases
  · rw [hnext]
    exact ⟨⟨rfl, rfl, rfl, rfl, rfl, rfl⟩, .refl s, .refl s, rfl, ⟨rfl, rfl⟩,
      fun _ => ⟨rfl, ⟨rfl, rfl, rfl, rfl⟩, rfl, Memory.read_nil⟩, fun h => absurd hatt (Nat.not_lt.mpr h)⟩
  · rw [hnext]
    exact ⟨engineFrame_phase _ _ _, .refl s, .refl s, rfl, ⟨rfl, rfl⟩,
      fun h => absurd h (Nat.not_lt.mpr hatt), fun _ => ⟨rfl, .refl s, .refl s⟩⟩

/-- Settles O46: the write is the only request, and what follows it is the next attempt. -/
theorem shortWriteEndsTheAttempt : Obligations.ShortWriteEndsTheAttempt := by
  unfold Obligations.ShortWriteEndsTheAttempt
  intro s k f n hst hk hf he hn hne
  have hstep := (engineStep_sending hst hk).trans (sendStep_short hf (State.nextCount_of_no_error he hn) hne)
  obtain ⟨hframe, htx, hres, hlog, hused, hagain, hend⟩ := (s.request (.chWrite f)).nextAttempt_spec
  exact ⟨_, hstep, hlog.trans (State.log_request_chWrite f he hn), hused.after_request,
    (engineFrame_request s _).trans hframe, htx, hres, hagain, hend⟩

/-! AwaitingData. -/

/-- Bytes are available (rule R231). -/
theorem pollStep_available {s : State} {n : Nat} (hn : s.nextCount = some n) (hpos : 0 < n) :
    pollStep s = .next { s.request .chAvail with st := .draining } := by
  obtain ⟨m, rfl⟩ := Nat.exists_eq_add_one.mpr hpos
  simp [pollStep, hn]

/-- Nothing is available and polls are left (rules R230, R231). -/
theorem pollStep_again {s : State} (hn : s.nextCount = some 0) (hlt : s.pcnt + 1 < s.params.nPoll) :
    pollStep s = .next { (s.request .chAvail).delay s.params.tPoll with pcnt := s.pcnt + 1 } := by
  simp [pollStep, hn, State.pollFailed, hlt]

/-- Nothing is available at the last poll (rule R232). -/
theorem pollStep_last {s : State} (hn : s.nextCount = some 0) (hle : s.params.nPoll ≤ s.pcnt + 1) :
    pollStep s = .next { s.request .chAvail with pcnt := s.pcnt + 1, st := .classifying } := by
  simp [pollStep, hn, State.pollFailed, Nat.not_lt.mpr hle]

/-- Settles O48: the poll answers bytes, or nothing before the last poll, or nothing at the last poll. -/
theorem awaitingDataPolls : Obligations.AwaitingDataPolls := by
  unfold Obligations.AwaitingDataPolls
  intro s k n hst hk he hn
  have hcount : s.nextCount = some n := State.nextCount_of_no_error he hn
  have hlog := State.log_request_chAvail he hn
  rw [engineStep_awaitingData hst hk]
  obtain hpos | ⟨rfl, hlt⟩ | ⟨rfl, hle⟩ :
      0 < n ∨ (n = 0 ∧ s.pcnt + 1 < s.params.nPoll) ∨ (n = 0 ∧ s.params.nPoll ≤ s.pcnt + 1) := by omega
  · exact ⟨_, pollStep_available hcount hpos, consumed_request s .chAvail,
      (engineFrame_request s _).trans (engineFrame_phase _ _ _), .refl s, .refl s, .refl s,
      fun _ => ⟨rfl, hlog, .refl s⟩, fun h0 => absurd h0 hpos.ne', fun h0 => absurd h0 hpos.ne'⟩
  · have hdelay : ((s.request .chAvail).delay s.params.tPoll).log =
        s.log ++ [.request .chAvail (.count 0), .delay s.params.tPoll] := by
      rw [State.delay_log, hlog, List.append_assoc, List.singleton_append]
    exact ⟨_, pollStep_again hcount hlt, consumed_request s .chAvail, ⟨rfl, rfl, rfl, rfl, rfl, rfl⟩, .refl s,
      .refl s, .refl s, fun hpos => absurd rfl hpos.ne', fun _ _ => ⟨hst, hdelay, rfl, rfl, rfl, rfl⟩,
      fun _ hle => absurd hlt (Nat.not_lt.mpr hle)⟩
  · have hempty : Inv s → s.rxLen = 0 := by
      intro hinv
      obtain ⟨hrx, -, -⟩ := hinv.phase.awaiting hst
      exact hrx
    exact ⟨_, pollStep_last hcount hle, consumed_request s .chAvail,
      (engineFrame_request s _).trans (engineFrame_phase _ _ _), .refl s, .refl s, .refl s,
      fun hpos => absurd rfl hpos.ne', fun _ hlt => absurd hlt (Nat.not_lt.mpr hle),
      fun _ _ => ⟨rfl, hlog, ⟨rfl, rfl, rfl, rfl⟩, hempty⟩⟩

/-! Draining. -/

/-- The bound is reached (rule R236). -/
theorem drainStep_bound {s : State} (h : s.params.nDrain ≤ s.dcnt) :
    drainStep s = .next { s with st := .classifying } := by
  simp [drainStep, h]

/-- Nothing more is available (rule R237). -/
theorem drainStep_nothing_available {s : State} (h : s.dcnt < s.params.nDrain) (hn : s.nextCount = some 0) :
    drainStep s = .next { s.request .chAvail with st := .classifying } := by
  simp [drainStep, Nat.not_le.mpr h, hn]

/-- Bytes are available: the iteration goes on to its read (rule R235). -/
theorem drainStep_available {s : State} {n : Nat} (h : s.dcnt < s.params.nDrain) (hn : s.nextCount = some n)
    (hpos : 0 < n) : drainStep s = drainRead (s.request .chAvail) := by
  obtain ⟨m, rfl⟩ := Nat.exists_eq_add_one.mpr hpos
  simp [drainStep, Nat.not_le.mpr h, hn]

/-- The read answers no byte (rule R237). -/
theorem drainRead_nothing {s : State} (he : (s.drawAt 0).error = false) (hb : (s.drawAt 0).byte = none) :
    drainRead s = .next { s.request .chReadByte with st := .classifying } := by
  simp [drainRead, State.nextError_eq, State.nextDraw_eq_drawAt, he, hb]

/-- Settles O50: each of the three ends is a row of its own, and none of them writes to the capture. -/
theorem drainingEnds : Obligations.DrainingEnds := by
  unfold Obligations.DrainingEnds
  intro s k hst hk hend
  rw [engineStep_draining hst hk]
  obtain hbound | ⟨hlt, he, h0⟩ | ⟨hlt, he, hpos, he1, hb1⟩ := hend
  · exact ⟨_, drainStep_bound hbound, rfl, .refl s, engineFrame_phase _ _ _, .refl s, .refl s, .refl s,
      fun _ => ⟨rfl, rfl, rfl⟩, fun hlt => absurd hlt (Nat.not_lt.mpr hbound),
      fun hlt => absurd hlt (Nat.not_lt.mpr hbound)⟩
  · exact ⟨_, drainStep_nothing_available hlt (State.nextCount_of_no_error he h0), rfl, .refl s,
      (engineFrame_request s _).trans (engineFrame_phase _ _ _), .refl s, .refl s, .refl s,
      fun hbound => absurd hlt (Nat.not_lt.mpr hbound),
      fun _ _ => ⟨State.log_request_chAvail he h0, consumed_request s .chAvail⟩, fun _ hpos => absurd h0 hpos.ne'⟩
  · have hread : ((s.request .chAvail).drawAt 0).error = false := by rwa [State.drawAt_request]
    have hbyte : ((s.request .chAvail).drawAt 0).byte = none := by rwa [State.drawAt_request]
    have hstep := (drainStep_available hlt (State.nextCount_of_no_error he rfl) hpos).trans
      (drainRead_nothing hread hbyte)
    have hlog : ((s.request .chAvail).request .chReadByte).log =
        s.log ++ [.request .chAvail (.count (s.drawAt 0).count), .request .chReadByte .nothing] := by
      rw [State.log_request_chReadByte_nothing hread hbyte, State.log_request_chAvail he rfl, List.append_assoc,
        List.singleton_append]
    exact ⟨_, hstep, rfl, .refl s,
      (engineFrame_request s _).trans ((engineFrame_request _ _).trans (engineFrame_phase _ _ _)), .refl s, .refl s,
      .refl s, fun hbound => absurd hlt (Nat.not_lt.mpr hbound), fun _ h0 => absurd h0 hpos.ne',
      fun _ _ => ⟨hlog, (consumed_request (s.request .chAvail) .chReadByte).after_request⟩⟩

/-! The end of a transaction. -/

/-- What the ends of a transaction have in common, whatever they deliver: one ChClose, whatever its answer, and Idle
with both buffers emptied (rules R243, R245, R246, R296). -/
structure EndsWithClose (s t : State) : Prop where
  idle : BackToIdle t
  log : t.log = s.log ++ [.request .chClose (if (s.drawAt 0).error then .error else .ok)]
  used : Consumed 1 s t
  csw : t.csw = s.csw
  counters : CountersAre t s.att s.ccnt s.pcnt s.dcnt
  frame : EngineFrame s t

/-- After the ChClose nothing but the result registers depends on what is delivered. -/
theorem endsWithClose_toIdle (s : State) (r : ResultRegs) : EndsWithClose s { s.closeChannel.toIdle with res := r } where
  idle := by simp [BackToIdle]
  log := s.log_closeChannel
  used := by simp [Consumed]
  csw := by simp
  counters := by simp [CountersAre]
  frame := by constructor <;> simp

theorem endsWithClose_raiseFailure (s : State) (code : FailCode) :
    EndsWithClose s (s.closeChannel.raiseFailure false code) :=
  endsWithClose_toIdle s (failRegs code)

theorem endsWithClose_deliverOk (s : State) (v : Value) : EndsWithClose s (s.closeChannel.deliverOk v) :=
  endsWithClose_toIdle s (okRegs v.tag v.data)

/-- An OK result shows its tag and its bytes in the result registers (rules R27, R28). -/
theorem State.delivers_deliverOk (s : State) (v : Value) : (s.deliverOk v).delivers v.tag v.data :=
  ⟨rfl, rfl, rfl, rfl, rfl⟩

/-- A RESTART ends with its ChClose, whose answer decides between OK and CH_CLOSE (rules R243, R303). -/
theorem State.finishRestart_spec (s : State) :
    EndsWithClose s s.finishRestart ∧ ((s.drawAt 0).error = false → s.finishRestart.delivers .void []) ∧
      ((s.drawAt 0).error = true → s.finishRestart.fails .transportUnreachable .chClose) := by
  rw [← s.nextError_eq]
  obtain ⟨he, h⟩ | ⟨he, h⟩ := s.finishRestart_cases <;> rw [h, he]
  · exact ⟨endsWithClose_raiseFailure s .chClose, nofun, fun _ => State.fails_raiseFailure _ _ _⟩
  · exact ⟨endsWithClose_deliverOk s _, fun _ => State.delivers_deliverOk _ _, nofun⟩

/-- Settles O47: the write comes first, and the end of RESTART draws the answer after it. -/
theorem restartCompletesWithTheWrite : Obligations.RestartCompletesWithTheWrite := by
  unfold Obligations.RestartCompletesWithTheWrite
  intro s f hst hopr hf he hn
  have hk : Kind.ofOpr s.cmd.opr = some .restart := by rw [hopr]; rfl
  have hstep := (engineStep_sending hst hk).trans (sendStep_restart hf (State.nextCount_of_no_error he hn))
  obtain ⟨hends, hok, hfail⟩ := (s.request (.chWrite f)).finishRestart_spec
  have hlog := hends.log
  rw [State.log_request_chWrite f he hn, State.drawAt_request, List.append_assoc] at hlog
  rw [State.drawAt_request] at hok hfail
  refine ⟨_, hstep, hends.idle, hends.used.after_request, (engineFrame_request s _).trans hends.frame, hends.csw,
    hends.counters, fun h1 => ⟨hok h1, ?_⟩, fun h1 => ⟨hfail h1, ?_⟩⟩
  · simpa [h1] using hlog
  · simpa [h1] using hlog

/-- Settles O53: Accepted and Exhausted are one row each, and a RESTART exhausted fails after its ChClose. -/
theorem acceptedAndExhaustedLeave : Obligations.AcceptedAndExhaustedLeave := by
  unfold Obligations.AcceptedAndExhaustedLeave
  intro s k hk
  refine ⟨fun hst => engineStep_accepted hst hk, fun hst hne => ?_, ?_⟩
  · rw [engineStep_exhausted hst hk]
    simp [exhaustedStep, hne]
  · rintro hst rfl hopen
    have hstep : engineStep s = .next (s.closeChannel.raiseFailure false .writeShort) := by
      rw [engineStep_exhausted hst hk, ← State.raiseFailure_true_eq]
      simp [exhaustedStep, hopen]
    have hends := endsWithClose_raiseFailure s .writeShort
    exact ⟨_, hstep, State.fails_raiseFailure _ _ _, hends.idle, hends.log, hends.used, hends.csw, hends.counters,
      hends.frame⟩

/-- Parsed ends with its ChClose; its result is the parse's failure, else CH_CLOSE, else the value (rules R246, R303). -/
theorem State.finishParsed_spec (s : State) (out : Verdict Value) :
    EndsWithClose s (s.finishParsed out) ∧ (∀ c, out = .fail c → (s.finishParsed out).fails (failKindOf c) c) ∧
      (∀ v, out = .ok v → (s.drawAt 0).error = true →
        (s.finishParsed out).fails .transportUnreachable .chClose) ∧
      (∀ v, out = .ok v → (s.drawAt 0).error = false → (s.finishParsed out).delivers v.tag v.data) := by
  rw [← s.nextError_eq]
  obtain ⟨c, rfl, h⟩ | ⟨v, rfl, he, h⟩ | ⟨v, rfl, he, h⟩ := s.finishParsed_cases out <;> rw [h]
  · refine ⟨endsWithClose_raiseFailure s c, ?_, nofun, nofun⟩
    rintro _ ⟨⟩
    exact State.fails_raiseFailure _ _ _
  · exact ⟨endsWithClose_raiseFailure s .chClose, nofun, fun _ _ _ => State.fails_raiseFailure _ _ _,
      fun _ _ hne => absurd (he.symm.trans hne) nofun⟩
  · refine ⟨endsWithClose_deliverOk s v, nofun, fun _ _ hne => absurd (he.symm.trans hne) nofun, ?_⟩
    rintro _ ⟨⟩ -
    exact State.delivers_deliverOk _ v

/-- What Parsed does with a capture (rules R185, R246). -/
theorem parsedStep_of_capture {s : State} {k : Kind} {buf : Bytes} (hbuf : s.capture = some buf) :
    parsedStep k s = .next ((s.noteCsw (parse s.params k buf s.cmd.operands).csw).finishParsed
      (parse s.params k buf s.cmd.operands).out) := by
  simp [parsedStep, hbuf]

/-- Settles O54: the parse first notes its checksum warning, and the end of Parsed follows from there. -/
theorem parsedClosesAndDelivers : Obligations.ParsedClosesAndDelivers := by
  unfold Obligations.ParsedClosesAndDelivers
  rintro s k buf r hst hk hbuf rfl
  have hstep := (engineStep_parsed hst hk).trans (parsedStep_of_capture hbuf)
  obtain ⟨hends, hparse, hclose, hvalue⟩ :=
    (s.noteCsw (parse s.params k buf s.cmd.operands).csw).finishParsed_spec (parse s.params k buf s.cmd.operands).out
  exact ⟨_, hstep, hends.idle, hends.csw, hends.log, hends.used, hends.counters,
    (engineFrame_noteCsw s _).trans hends.frame, hparse, hclose, hvalue⟩

end Sys2Proof.Machine
end

section
/-! PROOFS. The family `60_exceptions.md`: a transaction that passes its checks goes on to its ChOpen (rule R223), and
what a ChOpen answered `error` leaves (rule R302). -/

namespace Sys2Proof.Machine

/-! The checks of a transaction that opens the channel. -/

theorem numericFmt_iff_fmtInt (fmt : BitVec 3) : numericFmt fmt = true ↔ fmtInt fmt := by
  unfold fmtInt
  revert fmt
  decide

/-- The value of a WRITE has a wire form when LEN is a width byte reversal takes, or the format is not numeric (rules
R141, R170). -/
theorem exists_wireValue {p : Params} {o : Operands} (h : fmtInt o.fmt → widthOk p o.len) :
    ∃ w, wireValue p o = some w := by
  by_cases hint : fmtInt o.fmt
  · have hwidth : widthOk p (valueBytes o).length := by simpa [length_valueBytes] using h hint
    exact ⟨_, by rw [wireValue, if_pos ((numericFmt_iff_fmtInt _).mpr hint), brev_of_widthOk hwidth]⟩
  · exact ⟨_, by rw [wireValue, if_neg (mt (numericFmt_iff_fmtInt _).mp hint)]⟩

theorem exists_build_write {p : Params} {o : Operands} (h : fmtInt o.fmt → widthOk p o.len) :
    ∃ f, build p .write o = .ok f := by
  obtain ⟨w, hw⟩ := exists_wireValue h
  exact ⟨framed 0x38 0x08 (wireReg o.reg ++ [flagsSent] ++ w), by simp only [build, hw]⟩

/-- Each of the four transactions, with operands its checks and the builder take, has a frame to send once accepted
(rule R223, steps 3 and 4). -/
theorem exec_eq_beginTransaction {i : Instr} {s : State} {o : Operands} (hi : s.st = .idle)
    (h : i = .ping o ∨ i = .restart o ∨ (i = .read o ∧ fieldsAccepted s.params o) ∨
      (i = .write o ∧ fieldsAccepted s.params o ∧ (fmtInt o.fmt → widthOk s.params o.len))) :
    ∃ k f, exec i s = (s.acceptCommand (encode i)).beginTransaction k ∧ acceptFailure s.params k i.operands = none ∧
      build s.params k i.operands = .ok f := by
  obtain rfl | rfl | ⟨rfl, hfields⟩ | ⟨rfl, hfields, hwidth⟩ := h
  · exact ⟨.ping, _, onAccept_idle _ _ (·.beginTransaction .ping) hi, rfl, rfl⟩
  · exact ⟨.restart, _, onAccept_idle _ _ (·.beginTransaction .restart) hi, rfl, rfl⟩
  · exact ⟨.read, _, onAccept_idle _ _ (·.beginTransaction .read) hi, fieldFailure_of_fieldsAccepted hfields,
      build_read s.params o⟩
  · obtain ⟨f, hf⟩ := exists_build_write hwidth
    exact ⟨.write, f, onAccept_idle _ _ (·.beginTransaction .write) hi, fieldFailure_of_fieldsAccepted hfields, hf⟩

/-! The ChOpen request. -/

/-- The state a transaction makes its ChOpen request in: counters and lengths cleared, then the frame stored (rule R223,
steps 2 and 5). -/
def State.readyToOpen (s : State) (f : Bytes) : State :=
  { s.startTransaction with txBuf := Memory.writeBytes [] 0 f, txLen := f.length }

/-- A frame the builder makes of checked operands fits TXBUF, so the transaction reaches its ChOpen (rules R37, R223). -/
theorem State.beginTransaction_eq_openChannel {s : State} {k : Kind} {f : Bytes}
    (haccept : acceptFailure s.params k s.cmd.operands = none) (hf : build s.params k s.cmd.operands = .ok f) :
    s.beginTransaction k = .next (s.readyToOpen f).openChannel := by
  have hstore : s.startTransaction.storeFrame f = some (s.readyToOpen f) :=
    State.storeFrame_eq_some.mpr ⟨length_build_le haccept hf, rfl⟩
  exact State.beginTransaction_eq_next.mpr (.inr ⟨haccept, .inr ⟨f, _, hf, hstore, rfl⟩⟩)

theorem State.log_request_chOpen_error {s : State} (he : (s.drawAt 0).error = true) :
    (s.request s.openRequest).log = s.log ++ [.request s.openRequest .error] := by
  simp [answerOf, State.nextDraw_eq_drawAt, he]

/-- A ChOpen answered `error` is followed by the end of the transaction with its ChClose, and the failure is CH_OPEN
(rule R302). -/
theorem State.openChannel_of_error {s : State} (he : (s.drawAt 0).error = true) :
    s.openChannel.fails .transportUnreachable .chOpen ∧ EndsWithClose (s.request s.openRequest) s.openChannel := by
  obtain ⟨-, h⟩ | ⟨hne, -⟩ := s.openChannel_cases
  · rw [h]
    exact ⟨State.fails_raiseFailure _ _ _, endsWithClose_raiseFailure _ _⟩
  · exact absurd (he.symm.trans (s.nextError_eq.symm.trans hne)) nofun

/-- Where the event trace begins at the ChOpen, it is the ChOpen and the ChClose (rules R45, R302). -/
theorem State.trace_openChannel_of_error {s : State} (he : (s.drawAt 0).error = true) (hmark : s.mark = s.log.length) :
    s.openChannel.trace =
        [.request s.openRequest .error, .request .chClose (if (s.drawAt 1).error then .error else .ok)] ∧
      s.openChannel.log = s.log ++ s.openChannel.trace := by
  obtain ⟨-, hends⟩ := State.openChannel_of_error he
  have hlog := hends.log
  rw [State.log_request_chOpen_error he, State.drawAt_request, List.append_assoc, List.singleton_append] at hlog
  have hmark' : s.openChannel.mark = s.log.length := hends.frame.mark.trans hmark
  simp [State.trace, hlog, hmark']

/-- Settles O44: whichever of the four it is, the transaction reaches its ChOpen, and the ChOpen answered `error` is
followed by the one ChClose. -/
theorem chOpenErrorEndsTransaction : Obligations.ChOpenErrorEndsTransaction := by
  unfold Obligations.ChOpenErrorEndsTransaction
  intro s o i hi _ hop he
  obtain ⟨k, f, hexec, haccept, hf⟩ := exec_eq_beginTransaction hi hop
  have hstep := hexec.trans (State.beginTransaction_eq_openChannel haccept hf)
  obtain ⟨hfails, hends⟩ := State.openChannel_of_error (s := (s.acceptCommand (encode i)).readyToOpen f) he
  obtain ⟨htrace, hlog⟩ := State.trace_openChannel_of_error (s := (s.acceptCommand (encode i)).readyToOpen f) he rfl
  exact ⟨_, hstep, hfails, hends.idle, hends.frame.cmd, hends.frame.ack, hends.csw, hends.counters, htrace, hlog,
    hends.used.after_request, hends.frame.cfg, hends.frame.params, hends.frame.hostIn⟩

end Sys2Proof.Machine
end

section
/-! PROOFS. The decoder and the encoder (`30_encoding.md` rules R110 to R112, `10_state.md` rules R21 to R26). -/

namespace Sys2Proof.Machine

/-! The selector and the operands of a command say which operation it is. -/

@[simp] theorem opr_selectInstr (opr : BitVec 4) (o : Operands) : (selectInstr opr o).opr = opr := by
  obtain ⟨i⟩ := opr
  fin_cases i <;> rfl

@[simp] theorem operands_selectInstr (opr : BitVec 4) (o : Operands) : (selectInstr opr o).operands = o := by
  obtain ⟨i⟩ := opr
  fin_cases i <;> rfl

@[simp] theorem selectInstr_opr_operands (i : Instr) : selectInstr i.opr i.operands = i := by
  cases i <;> rfl

theorem encode_selectInstr (c : Command) : encode (selectInstr c.opr c.operands) = c := by
  simp [encode]

/-- All the decoder can accept: operands that fit the port, and then the operation OPR selects. -/
theorem decode_eq_ok_iff {p : Params} {c : Command} {i : Instr} :
    decode p c = .ok i ↔ c.operands.wellFormed p = true ∧ selectInstr c.opr c.operands = i := by
  constructor
  · intro h
    by_cases hwf : c.operands.wellFormed p = true
    · exact ⟨hwf, Except.ok.inj ((Laws.decode_of_wellFormed p c hwf).symm.trans h)⟩
    · simp only [Operands.wellFormed, Bool.and_eq_true] at hwf
      simp only [decode] at h
      repeat' split at h
      case isFalse => simp_all
      all_goals cases h
  · rintro ⟨hwf, rfl⟩
    exact Laws.decode_of_wellFormed p c hwf

/-- Settles O3: a command is the encoding of the operation its selector and operands name, and only operands that fit
decode. -/
theorem decodeExactlyInvertsEncode : Obligations.DecodeExactlyInvertsEncode := by
  unfold Obligations.DecodeExactlyInvertsEncode
  intro p c i
  rw [decode_eq_ok_iff]
  constructor
  · rintro ⟨hwf, rfl⟩
    exact ⟨by rwa [Instr.wellFormed, operands_selectInstr], (encode_selectInstr c).symm⟩
  · rintro ⟨hwf, rfl⟩
    exact ⟨hwf, selectInstr_opr_operands i⟩

/-- Operands can be presented exactly when each is within the bounds of its latch (rules R25, R26). -/
theorem wellFormed_operands_iff (p : Params) (o : Operands) : o.wellFormed p = true ↔
    o.val.length ≤ p.maxLen ∧ o.abuf.length ≤ p.abufCap ∧ o.av < 2 ^ p.twMax ∧ o.aw ≤ p.twMax := by
  simp only [Operands.wellFormed, Operands.valFits, Operands.abufFits, Operands.avFits, Operands.awFits, Bool.and_eq_true,
    decide_eq_true_eq, fitsBits_iff, and_assoc]

/-- Settles O4: the checks are the bounds, one by one. -/
theorem wellFormedIffOperandsFit : Obligations.WellFormedIffOperandsFit := by
  unfold Obligations.WellFormedIffOperandsFit
  exact fun p i => wellFormed_operands_iff p i.operands

theorem wellFormed_zero (p : Params) : Operands.zero.wellFormed p = true := by
  simp [wellFormed_operands_iff, Operands.zero]

/-- A word of the table, whose operands are zero, always decodes, to the operation its low bits select. -/
theorem decodeTableWord_eight (w : Nat) :
    decodeTableWord 8 w = some (selectInstr (BitVec.ofNat 4 (w % 2 ^ 8)) Operands.zero) := by
  have hdecode : decode Config.params (tableCommand 8 w) = .ok (selectInstr (BitVec.ofNat 4 (w % 2 ^ 8)) Operands.zero) :=
    Laws.decode_of_wellFormed Config.params (tableCommand 8 w) (wellFormed_zero _)
  rw [decodeTableWord, if_neg (by decide), hdecode]
  rfl

/-- Settles O2: each word of the table selects its operation; the codes of SUB and FMT are finite tables. -/
theorem selectorCodesDecode : Obligations.SelectorCodesDecode := by
  unfold Obligations.SelectorCodesDecode
  refine ⟨?_, by decide, by decide⟩
  simp only [decodeTableWord_eight]
  exact ⟨rfl, rfl, rfl, rfl, rfl, rfl, rfl, rfl, rfl, rfl, rfl, rfl, rfl, rfl, rfl, rfl⟩

end Sys2Proof.Machine
end

section
/-! PROOFS. The laws of the codec functions (`40_codec_ops.md` rules R131 to R140) and of the checksum (`41_checksum.md`
rules R152 to R156). -/

namespace Sys2Proof.Machine

/-! BREV. -/

theorem brev_of_not_widthOk {p : Params} {b : Bytes} (h : ¬ widthOk p b.length) : brev p b = none :=
  if_neg (mt (revOk_iff p b.length).mp h)

/-- All byte reversal can answer: the reversal, on a width of REV_OK. -/
theorem brev_eq_some_iff {p : Params} {b c : Bytes} : brev p b = some c ↔ widthOk p b.length ∧ c = b.reverse := by
  by_cases h : widthOk p b.length
  · simp [brev_of_widthOk h, h, eq_comm]
  · simp [brev_of_not_widthOk h, h]

theorem brevValue_of_widthOk {p : Params} {b : Bytes} (h : widthOk p b.length) :
    brevValue p b = .ok { tag := .bytes, data := b.reverse } := by
  simp only [brevValue, brev_of_widthOk h]

theorem brevValue_of_not_widthOk {p : Params} {b : Bytes} (h : ¬ widthOk p b.length) :
    brevValue p b = .fail .revWidth := by
  simp only [brevValue, brev_of_not_widthOk h]

/-- Settles O21: membership in REV_OK decides between the reversal and REV_WIDTH. -/
theorem brevReversesOrFails : Obligations.BrevReversesOrFails := by
  unfold Obligations.BrevReversesOrFails
  intro s o hi
  constructor
  · intro hwidth
    obtain ⟨t, ht, hres, hcsw, hframe⟩ := onAccept_finishUnit_ok (c := { opr := 4, operands := o })
      (v := fun u => brevValue u.params u.cmd.operands.abuf) hi (brevValue_of_widthOk hwidth)
    exact ⟨t, o.abuf.reverse, ht, hres, hcsw, hframe, List.length_reverse, fun _ => List.getElem?_reverse⟩
  · intro hwidth
    exact onAccept_finishUnit_fail (c := { opr := 4, operands := o })
      (v := fun u => brevValue u.params u.cmd.operands.abuf) hi (brevValue_of_not_widthOk hwidth)

/-! HEXENC and HEXDEC. -/

/-- A digit is one of the sixteen characters `0` to `9` and `A` to `F` (rules R9, R15). -/
theorem hexchar_range (n : BitVec 4) :
    (0x30 ≤ (hexchar n).toNat ∧ (hexchar n).toNat ≤ 0x39) ∨ (0x41 ≤ (hexchar n).toNat ∧ (hexchar n).toNat ≤ 0x46) := by
  revert n
  decide

/-- Every character of an encoding is the digit of some nibble. -/
theorem exists_hexchar_of_mem_hexenc {b : Bytes} {x : Byte} (h : x ∈ hexenc b) : ∃ n, x = hexchar n := by
  induction b with
  | nil => cases h
  | cons y b ih =>
    obtain hx | hx := List.mem_append.mp h
    · simp only [hexPair, List.mem_cons, List.not_mem_nil, or_false] at hx
      obtain rfl | rfl := hx <;> exact ⟨_, rfl⟩
    · exact ih hx

/-- Every character of an encoding is an upper-case hex digit (rule R132). -/
theorem mem_hexenc_range {b : Bytes} {x : Byte} (h : x ∈ hexenc b) :
    (0x30 ≤ x.toNat ∧ x.toNat ≤ 0x39) ∨ (0x41 ≤ x.toNat ∧ x.toNat ≤ 0x46) := by
  obtain ⟨n, rfl⟩ := exists_hexchar_of_mem_hexenc h
  exact hexchar_range n

theorem hexdec_hexenc (b : Bytes) : hexdec (hexenc b) = .ok b := by
  have heven : (hexenc b).length % 2 = 0 := by
    rw [length_hexenc]
    omega
  rw [hexdec_of_even heven, hexdecPairs_hexenc]

theorem hexenc_of_hexdec {a b : Bytes} (h : hexdec a = .ok b) : hexenc b = a := by
  obtain heven | hodd := Nat.mod_two_eq_zero_or_one a.length
  · exact hexenc_of_hexdecPairs ((hexdec_of_even heven).symm.trans h)
  · cases (hexdec_of_odd hodd).symm.trans h

/-- Settles O22: each law is a lemma about the encoder, byte by byte. -/
theorem hexencLawsAndRoundTrips : Obligations.HexencLawsAndRoundTrips := by
  unfold Obligations.HexencLawsAndRoundTrips
  exact ⟨length_hexenc, hexenc_append, fun _ _ => mem_hexenc_range, fun _ _ h => hexenc_injective h, hexdec_hexenc,
    fun _ _ => hexenc_of_hexdec⟩

/-! TWOSC and TOUNS. -/

/-- In the signed range of a width, the remainder modulo `2^w` adds `2^w` to what is negative (rule R137). -/
theorem touns_of_range {x : Int} {w : Nat} (hw : 1 ≤ w) (hlo : -(2 ^ (w - 1) : Int) ≤ x) (hhi : x < 2 ^ (w - 1)) :
    touns x w = if 0 ≤ x then x else x + 2 ^ w := by
  obtain ⟨w, rfl⟩ := Nat.exists_eq_add_of_le' hw
  rw [Nat.add_sub_cancel] at hlo hhi
  rw [touns, Int.pow_succ']
  split
  · exact Int.emod_eq_of_lt (by omega) (by omega)
  · rw [← Int.add_emod_right]
    exact Int.emod_eq_of_lt (by omega) (by omega)

/-- `twosc` subtracts a multiple of `2^w` (rule R136). -/
theorem two_pow_dvd_twosc_sub (v w : Nat) : (2 ^ w : Int) ∣ twosc v w - v := by
  rw [twosc]
  split
  · exact ⟨-1, by ring⟩
  · simp

/-- `touns` undoes `twosc` (rule R138). -/
theorem touns_twosc {v w : Nat} (hv : v < 2 ^ w) : touns (twosc v w) w = v := by
  have hmod : twosc v w % 2 ^ w = v % 2 ^ w :=
    Int.emod_eq_emod_iff_emod_sub_eq_zero.mpr (Int.emod_eq_zero_of_dvd (two_pow_dvd_twosc_sub v w))
  rw [touns, hmod]
  exact Int.emod_eq_of_lt (Int.natCast_nonneg v) (by exact_mod_cast hv)

/-- `twosc` undoes `touns` on the signed range of the width (rule R138). -/
theorem twosc_touns {x : Int} {w : Nat} (hw : 1 ≤ w) (hlo : -(2 ^ (w - 1) : Int) ≤ x) (hhi : x < 2 ^ (w - 1)) :
    twosc (touns x w).toNat w = x := by
  have hpow : (2 ^ w : Int) = 2 * 2 ^ (w - 1) := by
    rw [← Int.pow_succ', Nat.sub_add_cancel hw]
  have hcast : ((2 ^ (w - 1) : Nat) : Int) = 2 ^ (w - 1) := Nat.cast_pow 2 _
  have hcast' : ((2 ^ w : Nat) : Int) = 2 ^ w := Nat.cast_pow 2 _
  have htouns := touns_of_range hw hlo hhi
  have hlt : (touns x w).toNat < 2 ^ w := by split at htouns <;> omega
  rw [twosc_of_lt hw hlt]
  split at htouns <;> split <;> omega

/-- Settles O23: the congruence first, and the two inverses on their ranges. -/
theorem signConversionLaws : Obligations.SignConversionLaws := by
  unfold Obligations.SignConversionLaws
  exact ⟨fun v w _ => Int.emod_eq_zero_of_dvd (two_pow_dvd_twosc_sub v w), fun _ _ _ => touns_twosc,
    fun _ _ => twosc_touns⟩

theorem tounsInRange_iff (p : Params) (o : Operands) : tounsInRange p o = true ↔
    1 ≤ o.aw ∧ o.aw ≤ p.twMax ∧ -(2 ^ (o.aw - 1) : Int) ≤ avSigned p o ∧ avSigned p o < 2 ^ (o.aw - 1) := by
  simp only [tounsInRange, Bool.and_eq_true, decide_eq_true_eq, and_assoc]

/-- The unsigned value of a width is in the signed range of one bit more. -/
theorem touns_range (x : Int) (w : Nat) : -(2 ^ w : Int) ≤ touns x w ∧ touns x w < 2 ^ w := by
  have hpos : (0 : Int) < 2 ^ w := by positivity
  have hlo : 0 ≤ touns x w := Int.emod_nonneg x hpos.ne'
  exact ⟨by omega, Int.emod_lt_of_pos x hpos⟩

/-- Settles O20: in range, `floor(AW / 8) + 1` bytes hold the AW bits of `touns` and the sign bit above them. -/
theorem tounsConvertsOrFails : Obligations.TounsConvertsOrFails := by
  unfold Obligations.TounsConvertsOrFails
  refine ⟨fun _ _ => touns_of_range, ?_⟩
  rintro s o x hi hav hx
  have hsigned : avSigned s.params o = x := (twosc_of_lt (Nat.le_trans (by decide) (eight_le_twMax s.params)) hav).trans hx.symm
  constructor
  · intro hpos hmax hlo hhi
    have hval : tounsValue s.params o = .ok { tag := .int, data := beBytes (o.aw / 8 + 1) (touns x o.aw) } := by
      rw [tounsValue, if_pos ((tounsInRange_iff _ _).mpr (hsigned ▸ ⟨hpos, hmax, hlo, hhi⟩)), hsigned]
    obtain ⟨t, ht, hres, hcsw, hframe⟩ := onAccept_finishUnit_ok (c := { opr := 3, operands := o })
      (v := fun u => tounsValue u.params u.cmd.operands) hi hval
    obtain ⟨hlo', hhi'⟩ := touns_range x o.aw
    refine ⟨t, _, ht, hres, hcsw, hframe, length_beBytes _ _, ?_⟩
    rw [signedBe_beBytes (by omega) hlo' hhi', touns_of_range hpos hlo hhi]
  · intro hout
    have hval : tounsValue s.params o = .fail .operandRange := by
      refine if_neg fun h => ?_
      obtain ⟨hpos, hmax, hlo, hhi⟩ := (tounsInRange_iff _ _).mp h
      omega
    exact onAccept_finishUnit_fail (c := { opr := 3, operands := o })
      (v := fun u => tounsValue u.params u.cmd.operands) hi hval

/-! The checksum. -/

theorem sumsTo85_checksum (P : Bytes) : sumsTo85 P (checksum P) := (checksum_eq_iff_sumsTo85 P _).mp rfl

/-- The checksum as a remainder of integers (rule R152). -/
theorem toNat_checksum (P : Bytes) : ((checksum P).toNat : Int) = (85 - ((P.map BitVec.toNat).sum : Int)) % 256 := by
  have hsum : ((P.map BitVec.toNat).sum + (checksum P).toNat) % 256 = 85 := sumsTo85_checksum P
  have hlt : (checksum P).toNat < 256 := (checksum P).isLt
  omega

/-- Modulo 256 a sum of bytes is the same whether they are read as unsigned or as signed (rules R136, R152). -/
theorem sum_twosc_emod (P : Bytes) :
    (P.map fun b => twosc b.toNat 8).sum % 256 = ((P.map BitVec.toNat).sum : Int) % 256 := by
  induction P with
  | nil => rfl
  | cons b P ih =>
    have hb : (256 : Int) ∣ twosc b.toNat 8 - b.toNat := two_pow_dvd_twosc_sub b.toNat 8
    simp only [List.map_cons, List.sum_cons, Nat.cast_add]
    omega

/-- Settles O25: the remainder of the unsigned sum, with which the signed sum agrees modulo 256. -/
theorem csumDelivers : Obligations.CsumDelivers := by
  unfold Obligations.CsumDelivers
  intro s o hi
  obtain ⟨t, ht, hres, hcsw, hframe⟩ := onAccept_finishUnit_ok (c := { opr := 5, operands := o })
    (v := fun u => .ok { tag := .bytes, data := [checksum u.cmd.operands.abuf] }) hi rfl
  have hunsigned := toNat_checksum o.abuf
  have hsigned := sum_twosc_emod o.abuf
  exact ⟨t, checksum o.abuf, ht, hres, hcsw, hframe, hunsigned, by omega⟩

/-- The checksum depends on the sum of the bytes alone. -/
theorem checksum_eq_of_sum_eq {P Q : Bytes} (h : (P.map BitVec.toNat).sum = (Q.map BitVec.toNat).sum) :
    checksum P = checksum Q := by
  rw [checksum_eq_iff_sumsTo85, sumsTo85, h]
  exact sumsTo85_checksum Q

/-- The order of the bytes does not matter (rule R154 law 1). -/
theorem checksum_perm {P Q : Bytes} (h : P.Perm Q) : checksum Q = checksum P :=
  checksum_eq_of_sum_eq (h.symm.map BitVec.toNat).sum_eq

/-- One byte changed changes the sum by the difference (rule R154 law 5). -/
theorem sum_set {P : Bytes} {i : Nat} (b : Byte) (hi : i < P.length) :
    ((P.set i b).map BitVec.toNat).sum + P[i].toNat = (P.map BitVec.toNat).sum + b.toNat := by
  induction P generalizing i with
  | nil => cases hi
  | cons x P ih =>
    cases i with
    | zero =>
      simp only [List.set_cons_zero, List.map_cons, List.sum_cons, List.getElem_cons_zero]
      omega
    | succ i =>
      have hrest := ih (Nat.lt_of_succ_lt_succ hi)
      simp only [List.set_cons_succ, List.map_cons, List.sum_cons, List.getElem_cons_succ]
      omega

theorem checksum_set_ne {P : Bytes} {i : Nat} {b : Byte} (hi : i < P.length) (hne : P[i]? ≠ some b) :
    checksum (P.set i b) ≠ checksum P := by
  intro heq
  have hset : (((P.set i b).map BitVec.toNat).sum + (checksum P).toNat) % 256 = 85 := heq ▸ sumsTo85_checksum (P.set i b)
  have hsum : ((P.map BitVec.toNat).sum + (checksum P).toNat) % 256 = 85 := sumsTo85_checksum P
  have hdiff := sum_set b hi
  have hold : P[i].toNat < 256 := P[i].isLt
  have hnew : b.toNat < 256 := b.isLt
  refine hne ?_
  rw [List.getElem?_eq_getElem hi, Option.some_inj]
  exact BitVec.eq_of_toNat_eq (by omega)

/-- Settles O27: each law is read off the sum form of the checksum. -/
theorem checksumLaws : Obligations.ChecksumLaws := by
  unfold Obligations.ChecksumLaws
  refine ⟨fun _ _ => checksum_perm, ?_, ?_, ?_, ?_, fun _ _ _ => checksum_set_ne, ?_⟩
  · intro p P Q h
    obtain ⟨-, rfl⟩ := brev_eq_some_iff.mp h
    exact checksum_perm P.reverse_perm.symm
  · intro P Q
    rw [toNat_checksum, toNat_checksum, List.map_append, List.sum_append]
    omega
  · intro P
    have hsum : ((P.map BitVec.toNat).sum + (checksum P).toNat) % 256 = 85 := sumsTo85_checksum P
    rw [checksum_eq_iff_sumsTo85, sumsTo85]
    simpa using hsum
  · intro P c
    rw [eq_comm, checksum_eq_iff_sumsTo85, sumsTo85]
  · intro P
    rw [csumchk_iff_sumsTo85]
    exact sumsTo85_checksum P

end Sys2Proof.Machine
end

section
/-! PROOFS. The frame builder (`42_frame_build.md` rules R166 to R174): the value in wire order, the failures, and what
every built frame looks like. -/

namespace Sys2Proof.Machine

/-! The checks on the fields. -/

theorem fieldFailure_of_not_fmtNamed {p : Params} {o : Operands} (h : ¬ fmtNamed o.fmt) :
    fieldFailure p o = some .format :=
  if_pos ((ofBits_eq_none_iff o.fmt).mpr h)

theorem fieldFailure_of_long {p : Params} {o : Operands} (hfmt : fmtNamed o.fmt) (hlen : p.maxLen < o.len) :
    fieldFailure p o = some .operandRange := by
  rw [fieldFailure, if_neg fun h => (ofBits_eq_none_iff o.fmt).mp h hfmt, if_pos hlen]

/-- The checks pass exactly for a named format and a length up to MAX_LEN (rules R111, R113). -/
theorem fieldFailure_eq_none_iff {p : Params} {o : Operands} : fieldFailure p o = none ↔ fieldsAccepted p o := by
  refine ⟨fun h => ?_, fieldFailure_of_fieldsAccepted⟩
  by_cases hfmt : fmtNamed o.fmt
  · by_cases hlen : p.maxLen < o.len
    · cases (fieldFailure_of_long hfmt hlen).symm.trans h
    · exact ⟨hfmt, Nat.not_lt.mp hlen⟩
  · cases (fieldFailure_of_not_fmtNamed hfmt).symm.trans h

/-! The value of a WRITE. -/

/-- A byte of VAL that the command leaves out reads as zero (rule R25, assumption 8). -/
theorem getElem?_valueBytes {o : Operands} {i : Nat} (hi : i < o.len) : (valueBytes o)[i]? = some (o.val.getD i 0) := by
  rw [valueBytes, List.getElem?_take_of_lt hi, List.getD_eq_getElem?_getD]
  by_cases hval : i < o.val.length
  · rw [List.getElem?_append_left hval, List.getElem?_eq_getElem hval, Option.getD_some]
  · have hout : o.val.length ≤ i := Nat.not_lt.mp hval
    rw [List.getElem?_append_right hout, List.getElem?_eq_none hout, List.getElem?_replicate_of_lt (by omega),
      Option.getD_none]

/-- The wire form of a WRITE's value is the order rule R170 gives its bytes. -/
theorem wireData_of_wireValue {p : Params} {o : Operands} {w : Bytes} (h : wireValue p o = some w) : wireData o w := by
  refine ⟨length_wireValue h, fun i hi => ?_⟩
  by_cases hint : o.fmt = 0 ∨ o.fmt = 4
  · rw [wireValue, if_pos ((numericFmt_iff_fmtInt _).mpr hint)] at h
    obtain ⟨-, rfl⟩ := brev_eq_some_iff.mp h
    have hlen : i < (valueBytes o).length := (length_valueBytes o).symm ▸ hi
    rw [if_pos hint, List.getElem?_reverse hlen, length_valueBytes, getElem?_valueBytes (by omega)]
  · rw [wireValue, if_neg (mt (numericFmt_iff_fmtInt _).mp hint)] at h
    obtain rfl := Option.some.inj h
    rw [if_neg hint, getElem?_valueBytes hi]

/-- The WRITE frame of the builder is the frame of rules R94 and R170 with the checksum of its payload. -/
theorem build_write_of_wireValue {p : Params} {o : Operands} {w : Bytes} (h : wireValue p o = some w) :
    build p .write o = .ok (dataFrame 0x38 o.reg w (checksum (dataPayload 0x08 o.reg w))) := by
  simp only [build, h, framed_eq_dataFrame]

/-- A numeric value of a length that byte reversal does not take has no wire form (rule R171). -/
theorem build_write_of_not_widthOk {p : Params} {o : Operands} (hint : fmtInt o.fmt) (hwidth : ¬ widthOk p o.len) :
    build p .write o = .fail .width := by
  have hnone : wireValue p o = none := by
    rw [wireValue, if_pos ((numericFmt_iff_fmtInt _).mpr hint)]
    exact brev_of_not_widthOk (by rwa [length_valueBytes])
  simp only [build, hnone]

/-- Settles O30: the accepted WRITE has a wire form, and its frame is built around it. -/
theorem buildWriteFrame : Obligations.BuildWriteFrame := by
  unfold Obligations.BuildWriteFrame
  intro s o hi hsub haccepted hwidth
  obtain ⟨w, hw⟩ := exists_wireValue hwidth
  have hk : Kind.ofSub o.sub = .write := congrArg Kind.ofSub hsub
  obtain ⟨t, ht, hres, hcsw, hframe⟩ :=
    execBuild_ok hi hk (fieldFailure_of_fieldsAccepted haccepted) (build_write_of_wireValue hw)
  exact ⟨t, w, _, ht, hres, hcsw, hframe, wireData_of_wireValue hw, sumsTo85_checksum _⟩

/-! The failures of BUILD. -/

/-- BUILD in Idle delivers the failure of its checks, or else of the builder (rules R174, R296). -/
theorem execBuild_fail {o : Operands} {s : State} {code : FailCode} (hi : s.st = .idle)
    (h : acceptFailure s.params (Kind.ofSub o.sub) o = some code ∨
      (acceptFailure s.params (Kind.ofSub o.sub) o = none ∧ build s.params (Kind.ofSub o.sub) o = .fail code)) :
    ∃ t, exec (.build o) s = .next t ∧ t.fails (failKindOf code) code ∧ FailFrame { opr := 7, operands := o } s t := by
  have hval : buildValue s.params o = .fail code := by
    obtain h | ⟨haccept, h⟩ := h
    · simp only [buildValue, h]
    · simp only [buildValue, haccept, h]
  exact onAccept_finishUnit_fail (v := fun u => buildValue u.params u.cmd.operands) hi hval

/-- READ and WRITE make the checks on the fields (rules R111, R113). -/
theorem acceptFailure_ofSub {p : Params} {o : Operands} (hsub : o.sub = 2 ∨ o.sub = 3) :
    acceptFailure p (Kind.ofSub o.sub) o = fieldFailure p o := by
  obtain h | h := hsub <;> rw [h] <;> rfl

/-- Settles O31: the format is checked first, then the length, and the builder fails last. -/
theorem buildFails : Obligations.BuildFails := by
  unfold Obligations.BuildFails
  intro s o hi hsub
  have haccept : acceptFailure s.params (Kind.ofSub o.sub) o = fieldFailure s.params o := acceptFailure_ofSub hsub
  refine ⟨fun hfmt => ?_, fun hfmt hlen => ?_, fun hsub3 haccepted hint hwidth => ?_⟩
  · exact execBuild_fail hi (.inl (haccept.trans (fieldFailure_of_not_fmtNamed hfmt)))
  · exact execBuild_fail hi (.inl (haccept.trans (fieldFailure_of_long hfmt hlen)))
  · have hk : Kind.ofSub o.sub = .write := congrArg Kind.ofSub hsub3
    exact execBuild_fail hi (.inr ⟨haccept.trans (fieldFailure_of_fieldsAccepted haccepted),
      hk ▸ build_write_of_not_widthOk hint hwidth⟩)

/-! What every built frame looks like. -/

/-- A character that may stand in a line before its line feed (rules R91, R172). -/
def lineChar (c : Byte) : Prop :=
  c ≠ 0x09 ∧ c ≠ 0x0A ∧ c ≠ 0x0D ∧ ¬ (0x61 ≤ c.toNat ∧ c.toNat ≤ 0x7A) ∧ c.toNat < 0x80

theorem lineChar_of_pingCharAllowed {c : Byte} (h : pingCharAllowed c = true) : lineChar c := by
  simp only [pingCharAllowed, Bool.and_eq_true, bne_iff_ne, decide_eq_true_eq, Bool.not_eq_true', Bool.and_eq_false_iff,
    decide_eq_false_iff_not] at h
  obtain ⟨⟨⟨⟨⟨⟨⟨hascii, -⟩, -⟩, -⟩, htab⟩, hlf⟩, hcr⟩, hlower⟩ := h
  exact ⟨htab, hlf, hcr, not_and_or.mpr hlower, hascii⟩

theorem lineChar_commandChar (p : Params) (k : Kind) : lineChar (Kind.commandChar p k) := by
  cases k with
  | ping => exact lineChar_of_pingCharAllowed (pingCharAllowed_cmdPing p)
  | restart =>
    change lineChar 0x36
    unfold lineChar
    decide
  | read =>
    change lineChar 0x37
    unfold lineChar
    decide
  | write =>
    change lineChar 0x38
    unfold lineChar
    decide

theorem lineChar_hexchar (n : BitVec 4) : lineChar (hexchar n) := by
  unfold lineChar
  revert n
  decide

/-- The frame of a kind around these bytes: none for the short frames (rules R91, R92). -/
def lineOf (cmdChar : Byte) (body : Bytes) : Bytes := [0x3A, cmdChar] ++ hexenc body ++ [0x0A]

theorem lineOf_eq_append (cmdChar : Byte) (body : Bytes) :
    lineOf cmdChar body = (0x3A :: cmdChar :: hexenc body) ++ [0x0A] := rfl

@[simp] theorem dropLast_lineOf (cmdChar : Byte) (body : Bytes) :
    (lineOf cmdChar body).dropLast = 0x3A :: cmdChar :: hexenc body := by
  rw [lineOf_eq_append, List.dropLast_concat]

theorem middle_lineOf (cmdChar : Byte) (body : Bytes) : ((lineOf cmdChar body).drop 2).dropLast = hexenc body := by
  have hdrop : (lineOf cmdChar body).drop 2 = hexenc body ++ [0x0A] := rfl
  rw [hdrop, List.dropLast_concat]

/-- Before the line feed there are only the marker, the command character and hex digits. -/
theorem lineChar_of_mem_dropLast {cmdChar x : Byte} {body : Bytes} (hcmd : lineChar cmdChar)
    (hx : x ∈ (lineOf cmdChar body).dropLast) : lineChar x := by
  rw [dropLast_lineOf, List.mem_cons, List.mem_cons] at hx
  obtain rfl | rfl | hx := hx
  · unfold lineChar
    decide
  · exact hcmd
  · obtain ⟨n, rfl⟩ := exists_hexchar_of_mem_hexenc hx
    exact lineChar_hexchar n

theorem lineChar_or_lf_of_mem {cmdChar x : Byte} {body : Bytes} (hcmd : lineChar cmdChar)
    (hx : x ∈ lineOf cmdChar body) : lineChar x ∨ x = 0x0A := by
  obtain hx | hx := List.mem_append.mp (lineOf_eq_append cmdChar body ▸ hx)
  · exact .inl (lineChar_of_mem_dropLast hcmd (by rwa [dropLast_lineOf]))
  · exact .inr (List.mem_singleton.mp hx)

theorem framed_eq_lineOf (cmdChar cmd : Byte) (fields : Bytes) :
    framed cmdChar cmd fields = lineOf cmdChar (fields ++ [checksum (cmd :: fields)]) := by
  simp only [framed, lineOf, hexenc_append, List.append_assoc, markerByte, termByte]

/-- Every built frame is such a line: empty between its ends for PING and RESTART, and for READ and WRITE the fields with
the byte that makes their sum right (rules R166 to R170). -/
theorem build_eq_lineOf {p : Params} {k : Kind} {o : Operands} {f : Bytes} (h : build p k o = .ok f) :
    ∃ body, f = lineOf (Kind.commandChar p k) body ∧
      (k = .read ∨ k = .write → ∃ fields c, body = fields ++ [c] ∧
        sumsTo85 ((match k with | .read => 0x07 | _ => 0x08) :: fields) c) := by
  cases k with
  | ping =>
    cases h
    exact ⟨[], rfl, by simp⟩
  | restart =>
    cases h
    exact ⟨[], rfl, by simp⟩
  | read =>
    cases h
    exact ⟨_, framed_eq_lineOf _ _ _, fun _ => ⟨_, _, rfl, sumsTo85_checksum _⟩⟩
  | write =>
    cases hw : wireValue p o with
    | none => simp [build, hw] at h
    | some w =>
      simp only [build, hw] at h
      cases h
      exact ⟨_, framed_eq_lineOf _ _ _, fun _ => ⟨_, _, rfl, sumsTo85_checksum _⟩⟩

/-- Settles O32: a built frame is a line, of which each clause is a property, with the length of its kind. -/
theorem builtFrameProperties : Obligations.BuiltFrameProperties := by
  unfold Obligations.BuiltFrameProperties
  intro p k o f h
  have hlen := length_build h
  obtain ⟨body, rfl, hsum⟩ := build_eq_lineOf h
  have hcmd := lineChar_commandChar p k
  refine ⟨rfl, by rw [lineOf_eq_append, List.getLast?_concat], by cases k <;> rfl, ?_, ?_, ?_, ?_, ?_, ?_, ?_, ?_⟩
  · intro x hx
    rw [middle_lineOf] at hx
    obtain ⟨n, rfl⟩ := exists_hexchar_of_mem_hexenc hx
    rw [hexval_hexchar, Option.isSome_some]
  · cases k <;> simp only [hlen, replyLen, Nat.add_comm]
  · intro hx
    obtain ⟨htab, -⟩ | h := lineChar_or_lf_of_mem hcmd hx
    · exact htab rfl
    · exact absurd h (by decide)
  · intro hx
    obtain ⟨-, -, hcr, -⟩ | h := lineChar_or_lf_of_mem hcmd hx
    · exact hcr rfl
    · exact absurd h (by decide)
  · intro x hx
    obtain ⟨-, -, -, hlower, -⟩ | rfl := lineChar_or_lf_of_mem hcmd hx
    · exact hlower
    · decide
  · intro x hx
    obtain ⟨-, -, -, -, hascii⟩ | rfl := lineChar_or_lf_of_mem hcmd hx
    · exact hascii
    · decide
  · intro hx
    obtain ⟨-, hlf, -⟩ := lineChar_of_mem_dropLast hcmd hx
    exact hlf rfl
  · intro hk
    obtain ⟨fields, c, rfl, h85⟩ := hsum hk
    refine ⟨fields, c, by rw [middle_lineOf, hexdec_hexenc], ?_⟩
    obtain rfl | rfl := hk <;> exact h85

end Sys2Proof.Machine
end

section
/-! PROOFS. The frame parser (`43_frame_parse.md` rules R186 to R207): a buffer with no fault is a reply frame, what step 5
answers of one, and PARSE of each kind. -/

namespace Sys2Proof.Machine

/-! A buffer with no fault is a reply frame and whatever follows it. -/

/-- The parts of a frame with fields, in the order the parser's steps look at them. -/
theorem dataFrame_eq_parts (cmdChar : Byte) (reg : BitVec 16) (d : Bytes) (c : Byte) :
    dataFrame cmdChar reg d c =
      [0x3A, cmdChar] ++ hexenc (wireReg reg) ++ hexenc [flagsSent] ++ (hexenc d ++ hexenc [c]) ++ [0x0A] := by
  have hfields : [reg.extractLsb' 0 8, reg.extractLsb' 8 8, (0x00 : Byte)] ++ d ++ [c] =
      wireReg reg ++ ([flagsSent] ++ (d ++ [c])) := rfl
  simp only [dataFrame, hfields, hexenc_append, List.append_assoc]

/-- The field at index `i` is the part that stands there. -/
theorem slice_of_eq {buf a b rest : Bytes} {i n : Nat} (h : buf = a ++ (b ++ rest)) (hi : a.length = i)
    (hn : b.length = n) : slice buf i n = b := by
  rw [slice, h, ← hi, List.drop_left, ← hn, List.take_left]

theorem hexField_of_slice {buf bs : Bytes} {i n : Nat} (h : slice buf i n = hexenc bs) : hexField buf i n = some bs := by
  rw [hexField, h, hexdec_hexenc]

theorem hasBadDigit_hexenc (bs : Bytes) : hasBadDigit (hexenc bs) = false := by
  rw [Bool.eq_false_iff, Ne, hasBadDigit_iff]
  rintro ⟨x, hx, hnone⟩
  obtain ⟨n, rfl⟩ := exists_hexchar_of_mem_hexenc hx
  cases (hexval_hexchar n).symm.trans hnone

section
variable {cmdChar c : Byte} {o : Operands} {buf d rest : Bytes} (hbuf : buf = dataFrame cmdChar o.reg d c ++ rest)
include hbuf

theorem slice_register : slice buf 2 4 = hexenc (wireReg o.reg) :=
  slice_of_eq (a := [0x3A, cmdChar]) (rest := hexenc [flagsSent] ++ (hexenc d ++ hexenc [c] ++ ([0x0A] ++ rest)))
    (by simp only [hbuf, dataFrame_eq_parts, List.append_assoc]) rfl rfl

theorem slice_flags : slice buf 6 2 = hexenc [flagsSent] :=
  slice_of_eq (a := [0x3A, cmdChar] ++ hexenc (wireReg o.reg)) (rest := hexenc d ++ hexenc [c] ++ ([0x0A] ++ rest))
    (by simp only [hbuf, dataFrame_eq_parts, List.append_assoc]) rfl rfl

section
variable (hd : d.length = o.len)
include hd

theorem slice_dataAndChecksum : slice buf 8 (2 * o.len + 2) = hexenc (d ++ [c]) :=
  slice_of_eq (a := [0x3A, cmdChar] ++ hexenc (wireReg o.reg) ++ hexenc [flagsSent]) (rest := [0x0A] ++ rest)
    (by simp only [hbuf, dataFrame_eq_parts, hexenc_append, List.append_assoc]) rfl
    (by rw [length_hexenc, List.length_append, List.length_singleton, hd, Nat.mul_succ])

theorem slice_data : slice buf 8 (2 * o.len) = hexenc d :=
  slice_of_eq (a := [0x3A, cmdChar] ++ hexenc (wireReg o.reg) ++ hexenc [flagsSent])
    (rest := hexenc [c] ++ ([0x0A] ++ rest))
    (by simp only [hbuf, dataFrame_eq_parts, List.append_assoc]) rfl (by rw [length_hexenc, hd])

theorem slice_checksum : slice buf (8 + 2 * o.len) 2 = hexenc [c] :=
  slice_of_eq (a := [0x3A, cmdChar] ++ hexenc (wireReg o.reg) ++ hexenc [flagsSent] ++ hexenc d)
    (rest := [0x0A] ++ rest) (by simp only [hbuf, dataFrame_eq_parts, List.append_assoc])
    (by rw [List.length_append, length_hexenc, hd]; rfl) rfl

theorem slice_terminator : slice buf (10 + 2 * o.len) 1 = [0x0A] :=
  slice_of_eq (a := [0x3A, cmdChar] ++ hexenc (wireReg o.reg) ++ hexenc [flagsSent] ++ (hexenc d ++ hexenc [c]))
    (rest := rest) (by simp only [hbuf, dataFrame_eq_parts, List.append_assoc])
    (by simp only [List.length_append, length_hexenc, hd, List.length_cons, List.length_nil, wireReg]; omega) rfl

theorem length_reply : 11 + 2 * o.len ≤ buf.length := by
  simp only [hbuf, dataFrame_eq_parts, List.length_append, length_hexenc, hd, List.length_cons, List.length_nil, wireReg]
  omega

/-- A reply frame that echoes the register has no fault (rules R187 to R194). -/
theorem firstReplyFault_dataFrame : firstReplyFault cmdChar o buf = none := by
  have hlong := length_reply hbuf hd
  have hterm : buf[10 + 2 * o.len]? = some 0x0A := by
    have h := congrArg (·[0]?) (slice_terminator hbuf hd)
    simpa [slice] using h
  have hcmd : buf.take 2 = [0x3A, cmdChar] := by
    rw [hbuf]
    rfl
  have hreg : (buf.drop 2).take 4 = hexenc [o.reg.extractLsb' 0 8, o.reg.extractLsb' 8 8] := slice_register hbuf
  have hflags : (buf.drop 6).take 2 = hexenc [flagsSent] := slice_flags hbuf
  have hzero : hexenc [flagsSent] = [0x30, 0x30] := by decide
  have hdata : (buf.drop 8).take (2 * o.len + 2) = hexenc (d ++ [c]) := slice_dataAndChecksum hbuf hd
  have hgood : ∀ bs : Bytes, (hexenc bs).any (fun x => (hexval x).isNone) = false := hasBadDigit_hexenc
  rw [firstReplyFault, if_neg (Nat.not_lt.mpr hlong), hterm, hcmd, hreg, hgood, hflags, hgood, hzero, hdata, hgood]
  simp

end

end

/-- The buffer cut at the places the parser's steps look at. -/
theorem eq_append_slices (buf : Bytes) (n : Nat) :
    buf = buf.take 2 ++ slice buf 2 4 ++ slice buf 6 2 ++ slice buf 8 (2 * n + 2) ++ slice buf (10 + 2 * n) 1 ++
      buf.drop (11 + 2 * n) := by
  have hcut : ∀ i m : Nat, buf.take i ++ slice buf i m = buf.take (i + m) := fun i m => List.take_add.symm
  rw [hcut, hcut, hcut, show 2 + 4 + 2 + (2 * n + 2) = 10 + 2 * n by omega, hcut,
    show 10 + 2 * n + 1 = 11 + 2 * n by omega, List.take_append_drop]

/-- One check more in front: nothing fails where it passes and nothing after it fails. -/
theorem ite_some_eq_none_iff (q : Prop) [Decidable q] (c : FailCode) (later : Option FailCode) :
    (if q then some c else later) = none ↔ ¬ q ∧ later = none := by
  split <;> simp_all

/-- A buffer with no fault begins with a reply frame that echoes the register (rules R186, R207). -/
theorem exists_dataFrame_of_no_fault {cmdChar : Byte} {o : Operands} {buf : Bytes}
    (h : firstReplyFault cmdChar o buf = none) :
    ∃ d c rest, d.length = o.len ∧ buf = dataFrame cmdChar o.reg d c ++ rest := by
  simp only [firstReplyFault, ite_some_eq_none_iff, not_not, not_lt] at h
  obtain ⟨hlong, hterm, hcmd, -, hreg, -, hflags, hdigits, -⟩ := h
  have hlen : (slice buf 8 (2 * o.len + 2)).length = 2 * o.len + 2 := by
    rw [slice, List.length_take, List.length_drop]
    omega
  obtain ⟨hbad, -⟩ | ⟨-, bs, -, henc⟩ := hexdec_cases (a := slice buf 8 (2 * o.len + 2)) (by omega)
  · exact absurd hbad hdigits
  · have hbs : bs.length = o.len + 1 := by
      have h2 := congrArg List.length henc
      rw [length_hexenc, hlen] at h2
      omega
    have hne : bs ≠ [] := fun h0 => by simp [h0] at hbs
    have hterm' : slice buf (10 + 2 * o.len) 1 = [0x0A] := by
      rw [slice, List.take_one, List.head?_drop, hterm]
      rfl
    have hzero : hexenc [flagsSent] = [0x30, 0x30] := by decide
    have hreg' : slice buf 2 4 = hexenc (wireReg o.reg) := hreg
    have hflags' : slice buf 6 2 = [0x30, 0x30] := hflags
    refine ⟨bs.dropLast, bs.getLast hne, buf.drop (11 + 2 * o.len), by rw [List.length_dropLast, hbs]; rfl, ?_⟩
    rw [dataFrame_eq_parts, ← hexenc_append, List.dropLast_concat_getLast, henc, hzero, ← hcmd, ← hreg', ← hflags',
      ← hterm']
    exact eq_append_slices buf o.len

/-! Step 5. -/

/-- The data of a reply in host order: reversed for the numeric formats (rules R63, R196). -/
def hostOrder (fmt : BitVec 3) (d : Bytes) : Bytes := if numericFmt fmt then d.reverse else d

theorem overrideFmt_iff (fmt : BitVec 3) : overrideFmt fmt = true ↔ fmtOverride fmt ∨ fmt = 7 := by
  unfold fmtOverride
  revert fmt
  decide

/-- The checksum of the payload does not see the flip (rules R154, R197). -/
theorem checksum_hostOrder (cmd : Byte) (reg : BitVec 16) (fmt : BitVec 3) (d : Bytes) :
    checksum (cmd :: (wireReg reg ++ [flagsSent] ++ hostOrder fmt d)) = checksum (dataPayload cmd reg d) := by
  refine checksum_perm ?_
  rw [hostOrder]
  split
  · exact (d.reverse_perm.symm.append_left _).cons _
  · exact .refl _

/-- What the comparison, the override and the decoding answer of a reply's data (rules R197 to R202). -/
def replyResult (cmd : Byte) (o : Operands) (d : Bytes) (c : Byte) : ParseResult :=
  checkAndDecode o.fmt o.len (cmd :: (wireReg o.reg ++ [flagsSent] ++ hostOrder o.fmt d)) d (hostOrder o.fmt d) c

/-- Step 5 on a reply frame: WIDTH where the flip has no such width, else the comparison with the checksum of the frame
(rules R194 to R202). -/
theorem parseTail_dataFrame {p : Params} {cmdChar cmd c : Byte} {o : Operands} {buf d rest : Bytes}
    (hd : d.length = o.len) (hbuf : buf = dataFrame cmdChar o.reg d c ++ rest) :
    (fmtInt o.fmt → ¬ widthOk p o.len → parseTail p cmd buf o (wireReg o.reg) [flagsSent] = parseFail .width) ∧
    ((fmtInt o.fmt → widthOk p o.len) → parseTail p cmd buf o (wireReg o.reg) [flagsSent] =
      replyResult cmd o d c) := by
  have hdata : hexField buf 8 (2 * o.len) = some d := hexField_of_slice (slice_data hbuf hd)
  have hsum : hexField buf (8 + 2 * o.len) 2 = some [c] := hexField_of_slice (slice_checksum hbuf hd)
  constructor
  · intro hint hwidth
    have hbrev : brev p d = none := brev_of_not_widthOk (hd ▸ hwidth)
    simp only [parseTail, hdata, hsum, (numericFmt_iff_fmtInt _).mpr hint, hbrev, if_true]
  · intro hwidth
    by_cases hint : fmtInt o.fmt
    · have hbrev : brev p d = some d.reverse := brev_of_widthOk (hd ▸ hwidth hint)
      simp only [parseTail, hdata, hsum, (numericFmt_iff_fmtInt _).mpr hint, hbrev, if_true, replyResult, hostOrder,
        List.headD_cons]
    · have hnum : numericFmt o.fmt = false := Bool.eq_false_iff.mpr (mt (numericFmt_iff_fmtInt _).mp hint)
      simp only [parseTail, hdata, hsum, hnum, replyResult, hostOrder, List.headD_cons, Bool.false_eq_true, if_false]

/-- A named format decodes data, and to what the rules say (rules R199 to R202). -/
theorem decodeValue_hostOrder {fmt : BitVec 3} (h : fmtNamed fmt) (len : Nat) (d : Bytes) :
    ∃ v, decodeValue fmt len d (hostOrder fmt d) = .ok v ∧ deliveredBy fmt len d v.tag v.data := by
  have hcode : fmt = 0 ∨ fmt = 1 ∨ fmt = 2 ∨ fmt = 4 ∨ fmt = 5 ∨ fmt = 6 := by
    unfold fmtNamed at h
    revert fmt
    decide
  obtain rfl | rfl | rfl | rfl | rfl | rfl := hcode <;> exact ⟨_, rfl, by simp [deliveredBy, hostOrder, numericFmt]⟩

/-- The verdict on the data of an accepted reply: a right checksum, or a wrong one that an override format tolerates and
CSW notes, or CHECKSUM (rules R196 to R202). -/
theorem replyResult_cases {p : Params} {cmd : Byte} {o : Operands} (haccepted : fieldsAccepted p o) (d : Bytes)
    (c : Byte) :
    ∃ v, deliveredBy o.fmt o.len d v.tag v.data ∧
      (sumsTo85 (dataPayload cmd o.reg d) c →
        replyResult cmd o d c = { csw := false, out := .ok v }) ∧
      (¬ sumsTo85 (dataPayload cmd o.reg d) c → fmtOverride o.fmt →
        replyResult cmd o d c = { csw := true, out := .ok v }) ∧
      (¬ sumsTo85 (dataPayload cmd o.reg d) c → ¬ fmtOverride o.fmt →
        replyResult cmd o d c = parseFail .checksum) := by
  obtain ⟨hnamed, -⟩ := haccepted
  obtain ⟨v, hv, hdel⟩ := decodeValue_hostOrder hnamed o.len d
  refine ⟨v, hdel, fun hsum => ?_, fun hsum hover => ?_, fun hsum hover => ?_⟩ <;>
    rw [← checksum_eq_iff_sumsTo85] at hsum
  · rw [replyResult, checkAndDecode, checksum_hostOrder, if_pos hsum, hv]
  · rw [replyResult, checkAndDecode, checksum_hostOrder, if_neg hsum, if_pos ((overrideFmt_iff _).mpr (.inl hover)), hv]
  · have hno : ¬ overrideFmt o.fmt = true := fun h => ((overrideFmt_iff _).mp h).elim hover hnamed.2
    rw [replyResult, checkAndDecode, checksum_hostOrder, if_neg hsum, if_neg hno]

/-! PARSE. -/

/-- What PARSE leaves in Idle, whatever it answers (rule R206). -/
theorem execParse_idle {o : Operands} {s : State} (hi : s.st = .idle) : exec (.parse o) s =
    .next (((s.acceptCommand { opr := 8, operands := o }).noteCsw (parseOperand s.params o).csw).finishUnit
      (parseOperand s.params o).out) :=
  onAccept_idle { opr := 8, operands := o } s (fun t => .next ((t.noteCsw (parseOperand t.params t.cmd.operands).csw).finishUnit
    (parseOperand t.params t.cmd.operands).out)) hi

/-- PARSE in Idle delivers the value of the parse, and CSW shows whether it tolerated a wrong checksum (rule R206). -/
theorem execParse_ok {o : Operands} {s : State} {w : Bool} {v : Value} (hi : s.st = .idle)
    (h : parseOperand s.params o = { csw := w, out := .ok v }) : ∃ t, exec (.parse o) s = .next t ∧
      t.delivers v.tag v.data ∧ t.csw = w ∧ UnitFrame { opr := 8, operands := o } s t := by
  refine ⟨((s.acceptCommand { opr := 8, operands := o }).noteCsw w).deliverUnit v.tag v.data, ?_,
    ⟨rfl, rfl, rfl, rfl, rfl⟩, Bool.false_or w, ?_⟩
  · rw [execParse_idle hi, h, State.finishUnit_ok]
  · constructor
    case txBytes => exact fun _ => rfl
    case rxBytes => exact fun _ => rfl
    all_goals rfl

/-- PARSE of an accepted READ or WRITE is the parse of a reply with the command of its kind (rule R206). -/
theorem parseOperand_reply {p : Params} {o : Operands} {cmdChar cmd : Byte} (haccepted : fieldsAccepted p o)
    (hsub : (o.sub = 2 ∧ cmdChar = 0x37 ∧ cmd = 0x07) ∨ (o.sub = 3 ∧ cmdChar = 0x38 ∧ cmd = 0x08)) :
    parseOperand p o = parseReply p cmdChar cmd o.abuf o := by
  have haccept : fieldFailure p o = none := fieldFailure_of_fieldsAccepted haccepted
  obtain ⟨hsub, rfl, rfl⟩ | ⟨hsub, rfl, rfl⟩ := hsub
  · exact parseOperand_of_accepted (k := .read) (congrArg Kind.ofSub hsub) haccept
  · exact parseOperand_of_accepted (k := .write) (congrArg Kind.ofSub hsub) haccept

/-- The parse of a reply frame goes on to step 5 (rule R207). -/
theorem parseReply_dataFrame {p : Params} {cmdChar cmd c : Byte} {o : Operands} {buf d rest : Bytes}
    (hd : d.length = o.len) (hbuf : buf = dataFrame cmdChar o.reg d c ++ rest) :
    parseReply p cmdChar cmd buf o = parseTail p cmd buf o (wireReg o.reg) [flagsSent] := by
  rw [parseReply_eq_elim, firstReplyFault_dataFrame hbuf hd, Option.elim_none]

/-- Settles O33: the reply frame has no fault, and its checksum or the override decides how its data is delivered. -/
theorem parseDelivers : Obligations.ParseDelivers := by
  unfold Obligations.ParseDelivers
  intro s o d rest c cmdChar cmd hi hsub haccepted hd hwidth hbuf htolerated
  obtain ⟨-, htail⟩ := parseTail_dataFrame (p := s.params) (cmd := cmd) hd hbuf
  have hparse := (parseOperand_reply haccepted hsub).trans ((parseReply_dataFrame hd hbuf).trans (htail hwidth))
  obtain ⟨v, hdel, hright, hwrong, -⟩ := replyResult_cases (cmd := cmd) haccepted d c
  by_cases hsum : sumsTo85 (dataPayload cmd o.reg d) c
  · obtain ⟨t, ht, hres, hcsw, hframe⟩ := execParse_ok hi (hparse.trans (hright hsum))
    exact ⟨t, _, _, ht, hres, hdel, by simp [hcsw, hsum], hframe⟩
  · have hover : fmtOverride o.fmt := htolerated.resolve_left hsum
    obtain ⟨t, ht, hres, hcsw, hframe⟩ := execParse_ok hi (hparse.trans (hwrong hsum hover))
    exact ⟨t, _, _, ht, hres, hdel, by simp [hcsw, hsum], hframe⟩

/-- Settles O34: on a reply frame step 5 fails with WIDTH, or past the flip with CHECKSUM. -/
theorem parseChecksAndWidthFail : Obligations.ParseChecksAndWidthFail := by
  unfold Obligations.ParseChecksAndWidthFail
  intro s o d rest c cmdChar cmd hi hsub haccepted hd hbuf
  obtain ⟨hfail, htail⟩ := parseTail_dataFrame (p := s.params) (cmd := cmd) hd hbuf
  have hparse := (parseOperand_reply haccepted hsub).trans (parseReply_dataFrame hd hbuf)
  constructor
  · intro hint hwidth
    exact execParse_fail hi (hparse.trans (hfail hint hwidth))
  · intro hwidth hover hsum
    obtain ⟨v, -, -, -, hchecksum⟩ := replyResult_cases (cmd := cmd) haccepted d c
    exact execParse_fail hi (hparse.trans ((htail hwidth).trans (hchecksum hsum hover)))

/-- An OK result of PARSE is the value of its parse. -/
theorem execParse_status_ok {o : Operands} {s t : State} (hi : s.st = .idle) (h : exec (.parse o) s = .next t)
    (hok : t.res.status = .ok) :
    ∃ v, (parseOperand s.params o).out = .ok v ∧ t.res.tag = v.tag ∧ t.res.data = v.data ∧
      t.csw = (parseOperand s.params o).csw := by
  obtain rfl := Host.Outcome.next.inj ((execParse_idle hi).symm.trans h)
  cases hout : (parseOperand s.params o).out with
  | fail c => simp [hout, failRegs] at hok
  | ok v => exact ⟨v, rfl, rfl, rfl, Bool.false_or _⟩

/-- The parse of a reply answers OK only for a reply frame that echoes the register, with a right checksum or an override
format that tolerates a wrong one (rules R186, R207). -/
theorem parseReply_ok {p : Params} {cmdChar cmd : Byte} {o : Operands} {buf : Bytes} {v : Value}
    (haccepted : fieldsAccepted p o) (h : (parseReply p cmdChar cmd buf o).out = .ok v) :
    ∃ d rest c, d.length = o.len ∧ buf = dataFrame cmdChar o.reg d c ++ rest ∧ (fmtInt o.fmt → widthOk p o.len) ∧
      ((parseReply p cmdChar cmd buf o).csw = true ↔ ¬ sumsTo85 (dataPayload cmd o.reg d) c) ∧
      ((parseReply p cmdChar cmd buf o).csw = true → fmtOverride o.fmt) ∧ deliveredBy o.fmt o.len d v.tag v.data := by
  cases hfault : firstReplyFault cmdChar o buf with
  | some code => simp [parseReply_eq_elim, hfault, parseFail] at h
  | none =>
    obtain ⟨d, c, rest, hd, hbuf⟩ := exists_dataFrame_of_no_fault hfault
    obtain ⟨hfail, htail⟩ := parseTail_dataFrame (p := p) (cmd := cmd) hd hbuf
    rw [parseReply_dataFrame hd hbuf] at h ⊢
    have hwidth : fmtInt o.fmt → widthOk p o.len := by
      intro hint
      by_contra hno
      simp [hfail hint hno, parseFail] at h
    rw [htail hwidth] at h ⊢
    obtain ⟨v', hdel, hright, hwrong, hchecksum⟩ := replyResult_cases (cmd := cmd) haccepted d c
    refine ⟨d, rest, c, hd, hbuf, hwidth, ?_⟩
    by_cases hsum : sumsTo85 (dataPayload cmd o.reg d) c
    · rw [hright hsum] at h ⊢
      obtain rfl := Verdict.ok.inj h
      exact ⟨by simp [hsum], nofun, hdel⟩
    · by_cases hover : fmtOverride o.fmt
      · rw [hwrong hsum hover] at h ⊢
        obtain rfl := Verdict.ok.inj h
        exact ⟨by simp [hsum], fun _ => hover, hdel⟩
      · simp [hchecksum hsum hover, parseFail] at h

/-- Settles O35: an OK result passed the checks, and so comes from a reply frame. -/
theorem parseDeliversOnlyValidReplies : Obligations.ParseDeliversOnlyValidReplies := by
  unfold Obligations.ParseDeliversOnlyValidReplies
  intro s t o hi hsub h hok
  obtain ⟨v, hout, htag, hdata, hcsw⟩ := execParse_status_ok hi h hok
  have haccepted : fieldsAccepted s.params o := by
    rw [← fieldFailure_eq_none_iff, ← acceptFailure_ofSub hsub]
    cases haccept : acceptFailure s.params (Kind.ofSub o.sub) o with
    | none => rfl
    | some c => simp [parseOperand, haccept, parseFail] at hout
  obtain ⟨cmdChar, cmd, hkind⟩ : ∃ cmdChar cmd : Byte,
      (o.sub = 2 ∧ cmdChar = 0x37 ∧ cmd = 0x07) ∨ (o.sub = 3 ∧ cmdChar = 0x38 ∧ cmd = 0x08) := by
    obtain hsub | hsub := hsub
    · exact ⟨_, _, .inl ⟨hsub, rfl, rfl⟩⟩
    · exact ⟨_, _, .inr ⟨hsub, rfl, rfl⟩⟩
  rw [parseOperand_reply haccepted hkind] at hout hcsw
  obtain ⟨d, rest, c, hd, hbuf, -, hsum, hover, hdel⟩ := parseReply_ok haccepted hout
  exact ⟨d, rest, c, cmdChar, cmd, hkind, hd, hbuf, hcsw ▸ hsum, hcsw ▸ hover, htag ▸ hdata ▸ hdel⟩

/-- PING has no checks: PARSE answers what PING_PARSE answers (rules R205, R206). -/
theorem parseOperand_ping {p : Params} {o : Operands} (hsub : o.sub = 0) :
    parseOperand p o = { csw := false, out := pingParse p o.abuf } :=
  parseOperand_of_accepted (k := .ping) (congrArg Kind.ofSub hsub) rfl

theorem pingParse_default {p : Params} (h : p.pingRule = .default) (buf : Bytes) :
    pingParse p buf = pingParseDefault buf := by
  rw [pingParse, h]

theorem pingParse_unknown {p : Params} (h : p.pingRule = .unknown) (buf : Bytes) :
    pingParse p buf = properVerdict p (Config.pingParse buf) := by
  rw [pingParse, h]

/-- The default PING_PARSE takes a line: what stands before its line feed (rule R205). -/
theorem pingParseDefault_concat (line : Bytes) (b : Byte) : pingParseDefault (line ++ [b]) =
    if b ≠ 0x0A then .fail .terminator else .ok { tag := .bytes, data := line } := by
  simp [pingParseDefault, termByte]

/-- Settles O37: PARSE of a PING reply is PING_PARSE, by default on the empty buffer and on a line with its last byte, else
by the answer of the open function. -/
theorem parsePingReply : Obligations.ParsePingReply := by
  unfold Obligations.ParsePingReply
  intro s o hi hsub
  have hparse : parseOperand s.params o = { csw := false, out := pingParse s.params o.abuf } := parseOperand_ping hsub
  refine ⟨fun hrule hbuf => ?_, fun line b hrule hbuf hb => ?_, fun line hrule hbuf => ?_, fun v hrule hbuf hv => ?_,
    fun v hrule hbuf hv => ?_, fun c hrule hbuf => ?_⟩
  · rw [pingParse_default hrule, hbuf] at hparse
    exact execParse_fail hi hparse
  · rw [pingParse_default hrule, hbuf, pingParseDefault_concat, if_pos hb] at hparse
    exact execParse_fail hi hparse
  · rw [pingParse_default hrule, hbuf, pingParseDefault_concat, if_neg (not_not.mpr rfl)] at hparse
    exact execParse_ok hi hparse
  · rw [pingParse_unknown hrule, hbuf, properVerdict, if_pos ((legalValue_iff _ _).mpr hv)] at hparse
    exact execParse_ok hi hparse
  · rw [pingParse_unknown hrule, hbuf, properVerdict, if_neg (mt (legalValue_iff _ _).mp hv)] at hparse
    exact execParse_fail hi hparse
  · rw [pingParse_unknown hrule, hbuf, properVerdict] at hparse
    obtain ⟨t, ht, hfails, hframe⟩ := execParse_fail hi hparse
    exact ⟨t, _, ht, rfl, hfails, hframe⟩

/-- PARSE in Idle delivers the failure of its checks (rules R111, R113, R206). -/
theorem execParse_acceptFailure {o : Operands} {s : State} {code : FailCode} (hi : s.st = .idle)
    (h : acceptFailure s.params (Kind.ofSub o.sub) o = some code) : ∃ t, exec (.parse o) s = .next t ∧
      t.fails (failKindOf code) code ∧ FailFrame { opr := 8, operands := o } s t :=
  execParse_fail hi (by simp only [parseOperand, h])

/-- Settles O38: a RESTART has no reply to parse, and READ and WRITE make the checks on the fields first. -/
theorem parseAcceptanceFails : Obligations.ParseAcceptanceFails := by
  unfold Obligations.ParseAcceptanceFails
  intro s o hi
  refine ⟨fun hsub => ?_, fun hsub hfmt => ?_, fun hsub hfmt hlen => ?_⟩
  · exact execParse_fail hi (parseOperand_of_accepted (k := .restart) (congrArg Kind.ofSub hsub) rfl)
  · exact execParse_acceptFailure hi ((acceptFailure_ofSub hsub).trans (fieldFailure_of_not_fmtNamed hfmt))
  · exact execParse_acceptFailure hi ((acceptFailure_ofSub hsub).trans (fieldFailure_of_long hfmt hlen))

end Sys2Proof.Machine
end

section
/-! PROOFS. The moves of the engine (`44_transaction_engine.md` rule R221), said once for every state: the events of a step
and what it leaves. The invariants, the bound on a transaction and the frame of the engine follow from these. -/

namespace Sys2Proof.Machine

/-! The state after a list of channel events. -/

/-- The state in which these events have been made: they stand in the log, and each request has used up an answer
(rules R45, R46). -/
def State.after (s : State) : List Event → State
  | [] => s
  | .request r a :: es =>
    { s with log := s.log ++ [Event.request r a], chScript := s.chScript.tail, chDraws := s.chDraws + 1 }.after es
  | .delay t :: es => (s.delay t).after es

/-- Nothing but the log and the answers differs. -/
theorem State.after_eq (s : State) (es : List Event) : s.after es =
    { s with
      log := s.log ++ es
      chScript := s.chScript.drop (requestCount es)
      chDraws := s.chDraws + requestCount es } := by
  induction es generalizing s with
  | nil => simp [State.after, requestCount]
  | cons e es ih =>
    cases e with
    | request r a =>
      simp only [State.after, ih, requestCount, List.append_assoc, List.singleton_append, List.drop_tail]
      rw [Nat.add_assoc, Nat.add_comm 1]
    | delay t => simp [State.after, ih, requestCount, State.delay]

@[simp] theorem State.after_cmd (s : State) (es : List Event) : (s.after es).cmd = s.cmd := by rw [State.after_eq]
@[simp] theorem State.after_res (s : State) (es : List Event) : (s.after es).res = s.res := by rw [State.after_eq]
@[simp] theorem State.after_st (s : State) (es : List Event) : (s.after es).st = s.st := by rw [State.after_eq]
@[simp] theorem State.after_att (s : State) (es : List Event) : (s.after es).att = s.att := by rw [State.after_eq]
@[simp] theorem State.after_pcnt (s : State) (es : List Event) : (s.after es).pcnt = s.pcnt := by rw [State.after_eq]
@[simp] theorem State.after_dcnt (s : State) (es : List Event) : (s.after es).dcnt = s.dcnt := by rw [State.after_eq]
@[simp] theorem State.after_ccnt (s : State) (es : List Event) : (s.after es).ccnt = s.ccnt := by rw [State.after_eq]
@[simp] theorem State.after_csw (s : State) (es : List Event) : (s.after es).csw = s.csw := by rw [State.after_eq]
@[simp] theorem State.after_chOpen (s : State) (es : List Event) : (s.after es).chOpen = s.chOpen := by
  rw [State.after_eq]
@[simp] theorem State.after_txBuf (s : State) (es : List Event) : (s.after es).txBuf = s.txBuf := by rw [State.after_eq]
@[simp] theorem State.after_txLen (s : State) (es : List Event) : (s.after es).txLen = s.txLen := by rw [State.after_eq]
@[simp] theorem State.after_rxBuf (s : State) (es : List Event) : (s.after es).rxBuf = s.rxBuf := by rw [State.after_eq]
@[simp] theorem State.after_rxLen (s : State) (es : List Event) : (s.after es).rxLen = s.rxLen := by rw [State.after_eq]
@[simp] theorem State.after_cfg (s : State) (es : List Event) : (s.after es).cfg = s.cfg := by rw [State.after_eq]
@[simp] theorem State.after_params (s : State) (es : List Event) : (s.after es).params = s.params := by
  rw [State.after_eq]
@[simp] theorem State.after_hostIn (s : State) (es : List Event) : (s.after es).hostIn = s.hostIn := by
  rw [State.after_eq]
@[simp] theorem State.after_log (s : State) (es : List Event) : (s.after es).log = s.log ++ es := by rw [State.after_eq]
@[simp] theorem State.after_mark (s : State) (es : List Event) : (s.after es).mark = s.mark := by rw [State.after_eq]
@[simp] theorem State.after_portAck (s : State) (es : List Event) : (s.after es).portAck = s.portAck := by
  rw [State.after_eq]

/-! The moves. -/

/-- The end of a transaction with these result registers, with or without a ChClose (rules R246, R296). -/
def State.finished (s : State) (close : Bool) (r : ResultRegs) : State :=
  { (if close then s.closeChannel else s).toIdle with res := r }

/-- What a transaction may deliver in this state: a failure with a code, nothing (RESTART), or the value its capture
parses to (rules R243, R246, R296). -/
def Concludes (k : Kind) (s : State) (r : ResultRegs) : Prop :=
  (∃ code, code ≠ .noFailure ∧ r = failRegs code) ∨ r = okRegs .void [] ∨
    ∃ v buf, s.capture = some buf ∧ (parse s.params k buf s.cmd.operands).out = .ok v ∧ r = okRegs v.tag v.data

/-- The rows of the transition table that stay in an attempt or leave it for the parser, but for the one that captures a
byte: the events of the step, the next state of the engine and PCNT. -/
inductive Advances (k : Kind) (s : State) : List Event → EngineState → Nat → Prop
  | written (f : Bytes) (a : Answer) (hst : s.st = .sending) (hf : s.frame = some f) (hk : k ≠ .restart) :
      Advances k s [.request (.chWrite f) a] .awaitingData s.pcnt
  | polledAgain (a : Answer) (t : Nat) (hst : s.st = .awaitingData) (hp : s.pcnt + 1 < s.params.nPoll) :
      Advances k s [.request .chAvail a, .delay t] s.st (s.pcnt + 1)
  | polledLast (a : Answer) (hst : s.st = .awaitingData) :
      Advances k s [.request .chAvail a] .classifying (s.pcnt + 1)
  | available (a : Answer) (hst : s.st = .awaitingData) : Advances k s [.request .chAvail a] .draining s.pcnt
  | drainBound (hst : s.st = .draining) : Advances k s [] .classifying s.pcnt
  | nothingMore (a : Answer) (hst : s.st = .draining) (hd : s.dcnt < s.params.nDrain) :
      Advances k s [.request .chAvail a] .classifying s.pcnt
  | noByte (a b : Answer) (hst : s.st = .draining) (hd : s.dcnt < s.params.nDrain) :
      Advances k s [.request .chAvail a, .request .chReadByte b] .classifying s.pcnt
  | accepted (hst : s.st = .classifying) : Advances k s [] .accepted s.pcnt
  | noise (hst : s.st = .classifying) : Advances k s [] .noisyRetry s.pcnt
  | toParser (hst : s.st = .accepted) : Advances k s [] .parsed s.pcnt
  | exhausted (hst : s.st = .exhausted) (hk : k ≠ .restart) : Advances k s [] .parsed s.pcnt

/-- The rows that end an attempt: the events of the step and CCNT (rules R227, R240). -/
inductive AttemptEnds (s : State) : List Event → Nat → Prop
  | shortWrite (f : Bytes) (a : Answer) (hst : s.st = .sending) (hf : s.frame = some f) :
      AttemptEnds s [.request (.chWrite f) a] s.ccnt
  | recovered (a b c : Answer) (t u : Nat) (hst : s.st = .noisyRetry) :
      AttemptEnds s [.request (.chWrite (cancelBytes s.params)) a, .request .chReadByte b, .delay t,
        .request .chFlushIn c, .delay u] (s.ccnt + 1)

/-- The rows that end the transaction: the events of the step before a ChClose, and CCNT (rules R243, R245, R246, R301). -/
inductive TransactionEnds (s : State) : List Event → Nat → Prop
  | written (f : Bytes) (a : Answer) (hst : s.st = .sending) (hf : s.frame = some f) :
      TransactionEnds s [.request (.chWrite f) a] s.ccnt
  | polled (a : Answer) (hst : s.st = .awaitingData) : TransactionEnds s [.request .chAvail a] s.ccnt
  | drainPolled (a : Answer) (hst : s.st = .draining) (hd : s.dcnt < s.params.nDrain) :
      TransactionEnds s [.request .chAvail a] s.ccnt
  | drainRead (a b : Answer) (hst : s.st = .draining) (hd : s.dcnt < s.params.nDrain) :
      TransactionEnds s [.request .chAvail a, .request .chReadByte b] s.ccnt
  | cancelled (a : Answer) (hst : s.st = .noisyRetry) :
      TransactionEnds s [.request (.chWrite (cancelBytes s.params)) a] (s.ccnt + 1)
  | discarded (a b : Answer) (hst : s.st = .noisyRetry) :
      TransactionEnds s [.request (.chWrite (cancelBytes s.params)) a, .request .chReadByte b] (s.ccnt + 1)
  | flushed (a b c : Answer) (t : Nat) (hst : s.st = .noisyRetry) :
      TransactionEnds s [.request (.chWrite (cancelBytes s.params)) a, .request .chReadByte b, .delay t,
        .request .chFlushIn c] (s.ccnt + 1)
  | parsed (hst : s.st = .parsed) : TransactionEnds s [] s.ccnt
  | exhausted (hst : s.st = .exhausted) : TransactionEnds s [] s.ccnt

/-- All the engine can do in a transaction of this kind: advance, capture a byte, end the attempt, or end the
transaction. -/
inductive EngineMove (k : Kind) (s : State) : State → Prop
  | advance (es : List Event) (x : EngineState) (p : Nat) (h : Advances k s es x p) :
      EngineMove k s { s.after es with st := x, pcnt := p }
  | capture (a b : Answer) (t : Nat) (v : Byte) (hst : s.st = .draining) (hd : s.dcnt < s.params.nDrain)
      (hroom : s.rxLen < rxCap s.params) :
      EngineMove k s { s.after [.request .chAvail a, .request .chReadByte b, .delay t] with
        rxBuf := Memory.write s.rxBuf s.rxLen v, rxLen := s.rxLen + 1, dcnt := s.dcnt + 1 }
  | attempt (es : List Event) (c : Nat) (h : AttemptEnds s es c) :
      EngineMove k s ({ s with ccnt := c }.after es).nextAttempt
  | finish (es : List Event) (c : Nat) (w close : Bool) (r : ResultRegs) (h : TransactionEnds s es c)
      (hclose : s.chOpen = true → close = true) (hr : Concludes k s r) :
      EngineMove k s (({ s with ccnt := c, csw := w }.after es).finished close r)

/-! Every step of the engine is a move. -/

/-- A failure with a code may always be delivered. -/
theorem concludes_failRegs (k : Kind) (s : State) {code : FailCode} (h : code ≠ .noFailure) :
    Concludes k s (failRegs code) :=
  .inl ⟨code, h, rfl⟩

/-- A channel error ends the transaction with the code of the request (rules R300, R301). -/
theorem EngineMove.channelError {k : Kind} {s u : State} {es : List Event} {c : Nat} {code : FailCode}
    (h : TransactionEnds s es c) (hcode : code ≠ .noFailure) (hu : u = { s with ccnt := c }.after es) :
    EngineMove k s (u.raiseFailure s.chOpen code) :=
  hu ▸ .finish es c s.csw s.chOpen (failRegs code) h id (concludes_failRegs k s hcode)

/-- The parser fails with a code (rules R187 to R206, R282). -/
theorem parse_fail_ne_noFailure {p : Params} {k : Kind} {buf : Bytes} {o : Operands} {c : FailCode}
    (h : (parse p k buf o).out = .fail c) : c ≠ .noFailure := by
  have hreply : ∀ cmdChar cmd, (parseReply p cmdChar cmd buf o).out = .fail c → c ≠ .noFailure := by
    intro cmdChar cmd hout
    rw [parseReply_eq_elim] at hout
    cases hfault : firstReplyFault cmdChar o buf with
    | some code =>
      rw [hfault] at hout
      obtain rfl := Verdict.fail.inj hout
      obtain ⟨hc, -⟩ | ⟨hc, -⟩ := kind_of_firstReplyFault hfault <;> obtain rfl | rfl | rfl := hc <;> decide
    | none =>
      rw [hfault, Option.elim_none] at hout
      unfold parseTail checkAndDecode decodeValue at hout
      repeat' split at hout
      all_goals cases hout <;> decide
  cases k with
  | restart => cases h; decide
  | read => exact hreply _ _ h
  | write => exact hreply _ _ h
  | ping =>
    have hping : pingParse p buf = .fail c := h
    cases hrule : p.pingRule with
    | default =>
      rw [pingParse_default hrule, pingParseDefault] at hping
      repeat' split at hping
      all_goals cases hping <;> decide
    | unknown =>
      rw [pingParse_unknown hrule] at hping
      obtain ⟨v, -, -, hv⟩ | ⟨v, -, -, hv⟩ | ⟨code, -, hcode, hv⟩ | ⟨-, hv⟩ :=
        properVerdict_cases p (Config.pingParse buf)
      · cases hv.symm.trans hping
      · obtain rfl := Verdict.fail.inj (hv.symm.trans hping)
        decide
      · obtain rfl := Verdict.fail.inj (hv.symm.trans hping)
        exact hcode
      · obtain rfl := Verdict.fail.inj (hv.symm.trans hping)
        decide

theorem move_of_sendStep {k : Kind} {s t : State} (hst : s.st = .sending) (h : sendStep k s = .next t) :
    EngineMove k s t := by
  obtain ⟨f, hf, ⟨-, rfl⟩ | ⟨n, -, -, rfl⟩ | ⟨-, -, rfl⟩ | ⟨-, hk, rfl⟩⟩ := sendStep_eq_next h
  · exact .channelError (.written f _ hst hf) (by decide) rfl
  · exact .attempt _ _ (.shortWrite f _ hst hf)
  · obtain ⟨-, he⟩ | ⟨-, he⟩ := (s.request (.chWrite f)).finishRestart_cases <;> rw [he]
    · exact .finish _ _ s.csw true _ (.written f _ hst hf) (fun _ => rfl) (concludes_failRegs k s (by decide))
    · exact .finish _ _ s.csw true _ (.written f _ hst hf) (fun _ => rfl) (.inr (.inl rfl))
  · exact .advance _ _ _ (.written f _ hst hf hk)

theorem move_of_pollStep {k : Kind} {s t : State} (hst : s.st = .awaitingData) (h : pollStep s = .next t) :
    EngineMove k s t := by
  obtain ⟨-, rfl⟩ | ⟨-, hp, rfl⟩ | ⟨-, -, rfl⟩ | ⟨n, -, rfl⟩ := pollStep_eq_next h
  · exact .channelError (.polled _ hst) (by decide) rfl
  · exact .advance _ _ _ (.polledAgain _ _ hst hp)
  · exact .advance _ _ _ (.polledLast _ hst)
  · exact .advance _ _ _ (.available _ hst)

theorem move_of_drainStep {k : Kind} {s t : State} (hst : s.st = .draining) (h : drainStep s = .next t) :
    EngineMove k s t := by
  obtain ⟨-, rfl⟩ | ⟨hd, ⟨-, rfl⟩ | ⟨-, rfl⟩ | ⟨n, -, hread⟩⟩ := drainStep_eq_next h
  · exact .advance [] _ _ (.drainBound hst)
  · exact .channelError (.drainPolled _ hst hd) (by decide) rfl
  · exact .advance _ _ _ (.nothingMore _ hst hd)
  · obtain ⟨-, rfl⟩ | ⟨-, -, rfl⟩ | ⟨b, u, -, -, hu, rfl⟩ := drainRead_eq_next hread
    · exact .channelError (.drainRead _ _ hst hd) (by decide) rfl
    · exact .advance _ _ _ (.noByte _ _ hst hd)
    · obtain ⟨hroom, rfl⟩ := State.appendRx_eq_some.mp hu
      exact .capture _ _ _ b hst hd hroom

theorem move_of_recoverStep {k : Kind} {s t : State} (hst : s.st = .noisyRetry) (h : recoverStep s = .next t) :
    EngineMove k s t := by
  obtain ⟨-, rfl⟩ | ⟨-, -, rfl⟩ | ⟨-, -, -, rfl⟩ | ⟨-, -, -, rfl⟩ := recoverStep_eq_next h
  · exact .channelError (.cancelled _ hst) (by decide) rfl
  · exact .channelError (.discarded _ _ hst) (by decide) rfl
  · exact .channelError (.flushed _ _ _ _ hst) (by decide) rfl
  · exact .attempt _ _ (.recovered _ _ _ _ _ hst)

theorem move_of_parsedStep {k : Kind} {s t : State} (hst : s.st = .parsed) (h : parsedStep k s = .next t) :
    EngineMove k s t := by
  obtain ⟨buf, hbuf, rfl⟩ := parsedStep_eq_next h
  have hend : ∀ r, Concludes k s r → EngineMove k s
      ((s.noteCsw (parse s.params k buf s.cmd.operands).csw).finished true r) :=
    fun r hr => .finish [] _ _ true r (.parsed hst) (fun _ => rfl) hr
  obtain ⟨c, hc, he⟩ | ⟨v, -, -, he⟩ | ⟨v, hv, -, he⟩ :=
    (s.noteCsw (parse s.params k buf s.cmd.operands).csw).finishParsed_cases (parse s.params k buf s.cmd.operands).out
  all_goals rw [he]
  · exact hend _ (concludes_failRegs k s (parse_fail_ne_noFailure hc))
  · exact hend _ (concludes_failRegs k s (by decide))
  · exact hend _ (.inr (.inr ⟨v, buf, hbuf, hv, rfl⟩))

/-- Every step of the engine outside Idle is a move of the transaction OPR names. -/
theorem engineStep_move {s t : State} (h : engineStep s = .next t) :
    (s.st = .idle ∧ t = s) ∨ (s.st ≠ .idle ∧ ∃ k, Kind.ofOpr s.cmd.opr = some k ∧ EngineMove k s t) := by
  obtain hidle | ⟨hb, k, hk, hstep⟩ := engineStep_eq_next h
  · exact .inl hidle
  · refine .inr ⟨hb, k, hk, ?_⟩
    unfold transactionStep at hstep
    cases hst : s.st with
    | idle => exact absurd hst hb
    | sending => exact move_of_sendStep hst (by simpa only [hst] using hstep)
    | awaitingData => exact move_of_pollStep hst (by simpa only [hst] using hstep)
    | draining => exact move_of_drainStep hst (by simpa only [hst] using hstep)
    | classifying =>
      rw [hst] at hstep
      obtain ⟨buf, -, ⟨-, rfl⟩ | ⟨-, rfl⟩⟩ := classifyStep_eq_next hstep
      · exact .advance [] _ _ (.accepted hst)
      · exact .advance [] _ _ (.noise hst)
    | accepted =>
      rw [hst] at hstep
      obtain rfl := Host.Outcome.next.inj hstep
      exact .advance [] _ _ (.toParser hst)
    | noisyRetry => exact move_of_recoverStep hst (by simpa only [hst] using hstep)
    | parsed => exact move_of_parsedStep hst (by simpa only [hst] using hstep)
    | exhausted =>
      rw [hst] at hstep
      obtain ⟨-, rfl⟩ | ⟨hne, rfl⟩ := exhaustedStep_eq_next hstep
      · exact .channelError (.exhausted hst) (by decide) rfl
      · exact .advance [] _ _ (.exhausted hst hne)

/-! What every move leaves alone. -/

theorem engineFrame_after (s : State) (es : List Event) : EngineFrame s (s.after es) := by
  constructor <;> simp

theorem engineFrame_nextAttempt (s : State) : EngineFrame s s.nextAttempt := by
  obtain ⟨-, h⟩ | ⟨-, h⟩ := s.nextAttempt_cases <;> rw [h] <;> constructor <;> simp

theorem engineFrame_finished (s : State) (close : Bool) (r : ResultRegs) : EngineFrame s (s.finished close r) := by
  cases close <;> exact ⟨rfl, rfl, rfl, rfl, rfl, rfl⟩

/-- The latches, the configuration, the parameters and the host's side stay in every move. -/
theorem EngineMove.engineFrame {k : Kind} {s t : State} (h : EngineMove k s t) : EngineFrame s t := by
  cases h with
  | advance es x p h => exact (engineFrame_after s es).trans (engineFrame_phase _ _ _)
  | capture a b t v hst hd hroom => constructor <;> simp
  | attempt es c h =>
    have hccnt : EngineFrame s { s with ccnt := c } := ⟨rfl, rfl, rfl, rfl, rfl, rfl⟩
    exact hccnt.trans ((engineFrame_after _ es).trans (engineFrame_nextAttempt _))
  | finish es c w close r h hclose hr =>
    have hregs : EngineFrame s { s with ccnt := c, csw := w } := ⟨rfl, rfl, rfl, rfl, rfl, rfl⟩
    exact hregs.trans ((engineFrame_after _ es).trans (engineFrame_finished _ _ _))

@[simp] theorem State.finished_st (s : State) (close : Bool) (r : ResultRegs) : (s.finished close r).st = .idle := rfl

/-- The frame stays as built until the block is Idle again (rule R78). -/
theorem EngineMove.txBuf {k : Kind} {s t : State} (h : EngineMove k s t) (ht : t.st ≠ .idle) :
    t.txBuf = s.txBuf ∧ t.txLen = s.txLen := by
  cases h with
  | advance es x p h => simp
  | capture a b t v hst hd hroom => simp
  | attempt es c h =>
    obtain ⟨-, h⟩ | ⟨-, h⟩ := ({ s with ccnt := c }.after es).nextAttempt_cases <;> simp [h]
  | finish es c w close r h hclose hr => exact absurd rfl ht

/-- Settles O14: no move touches the host's side, and only the end of a transaction drops the frame. -/
theorem engineKeepsCommandAndFrame : Obligations.EngineKeepsCommandAndFrame := by
  unfold Obligations.EngineKeepsCommandAndFrame
  intro s t h
  obtain ⟨-, rfl⟩ | ⟨-, k, -, hmove⟩ := engineStep_move h
  · exact ⟨⟨rfl, rfl, rfl, rfl, rfl, rfl⟩, fun _ => .refl t⟩
  · refine ⟨hmove.engineFrame, fun ht => ?_⟩
    obtain ⟨hbuf, hlen⟩ := hmove.txBuf ht
    exact ⟨hlen, fun a => by rw [hbuf]⟩

end Sys2Proof.Machine
end

section
/-! PROOFS. The invariant of the block (`10_state.md` sections 2 to 6): what of the state it speaks of, the results an
operation and a transaction may deliver, and its preservation by each move, by each operation and by RESET. -/

namespace Sys2Proof.Machine

/-! What the invariant speaks of. -/

/-- The registers and buffers of the block, without what lies outside: the configuration, the host's side, the channel's
answers and its log. -/
def State.inner (s : State) : State :=
  { s with cfg := ConfigRegs.reset, hostIn := [], chScript := [], chDraws := 0, log := [], mark := 0, portAck := .none }

theorem LatchInv.of_eq {s t : State} (h : LatchInv s) (hcmd : t.cmd = s.cmd) (hparams : t.params = s.params) :
    LatchInv t := by
  constructor <;> rw [hcmd, hparams]
  exacts [h.val, h.abuf, h.av, h.aw]

theorem HeldInv.of_eq {s t : State} (h : HeldInv s) (hb : s.st ≠ .idle) (hcmd : t.cmd = s.cmd)
    (hparams : t.params = s.params) (hbuf : t.txBuf = s.txBuf) (hlen : t.txLen = s.txLen) : HeldInv t := by
  intro _
  rw [State.frame, hcmd, hparams, hbuf, hlen]
  exact h hb

/-- The invariant speaks of nothing else. -/
theorem inv_inner (s : State) : Inv s.inner ↔ Inv s := by
  constructor <;>
    exact fun h =>
      { latched := h.latched.of_eq rfl rfl
        result := ⟨h.result.none, h.result.ok, h.result.fail⟩
        buffers := ⟨h.buffers.txWf, h.buffers.rxWf, h.buffers.txCells, h.buffers.rxCells, h.buffers.txFits,
          h.buffers.rxFits⟩
        counters := ⟨h.counters.att, h.counters.ccnt, h.counters.pcnt, h.counters.dcnt⟩
        idle := ⟨h.idle.closed, h.idle.txEmpty, h.idle.rxEmpty⟩
        busy := ⟨h.busy.opened, h.busy.started, h.busy.noResult, h.busy.noWarning⟩
        phase := ⟨h.phase.sending, h.phase.awaiting, h.phase.captured, h.phase.beforeRecovery, h.phase.exhausted,
          h.phase.restart⟩
        held := h.held }

theorem Inv.of_inner_eq {s t : State} (h : Inv s) (he : t.inner = s.inner) : Inv t :=
  (inv_inner t).mp (he ▸ (inv_inner s).mpr h)

/-- Two states of equal registers and buffers have equal inner states, whatever lies outside. -/
@[simp] theorem State.inner_after (s : State) (es : List Event) : (s.after es).inner = s.inner := by
  rw [State.after_eq]
  rfl

/-- Empty buffers are canonical. -/
theorem bufferInv_of_empty {s : State} (htx : s.txBuf = []) (hrx : s.rxBuf = []) (htxLen : s.txLen = 0)
    (hrxLen : s.rxLen = 0) : BufferInv s := by
  constructor <;> simp [htx, hrx, htxLen, hrxLen]

/-- In Idle the invariant asks for little beside the latches, the results and the counters. -/
theorem inv_of_idle {s : State} (hst : s.st = .idle) (hlatched : LatchInv s) (hresult : ResultInv s)
    (hbuffers : BufferInv s) (hcounters : CounterInv s) (hclosed : s.chOpen = false) (htx : s.txLen = 0)
    (hrx : s.rxLen = 0) : Inv s where
  latched := hlatched
  result := hresult
  buffers := hbuffers
  counters := hcounters
  idle := ⟨fun _ => hclosed, fun _ => htx, fun _ => hrx⟩
  busy := by constructor <;> simp [hst]
  phase := by constructor <;> simp [hst]
  held := fun hb => absurd hst hb

/-- Every register at its reset value. -/
theorem inv_resetRegs (s : State) : Inv s.resetRegs := by
  refine inv_of_idle rfl ?_ ?_ (bufferInv_of_empty rfl rfl rfl rfl) ?_ rfl rfl rfl
  · constructor <;> simp [State.reset, Operands.zero]
  · constructor <;> simp [State.reset, ResultRegs.cleared]
  · constructor <;> simp [State.reset]

/-! What may be delivered. -/

theorem resultInv_cleared {s : State} (h : s.res = ResultRegs.cleared) : ResultInv s := by
  constructor <;> simp [h, ResultRegs.cleared]

theorem resultInv_failRegs {s : State} {code : FailCode} (hcode : code ≠ .noFailure) (h : s.res = failRegs code) :
    ResultInv s := by
  constructor <;> simp [h, failRegs, hcode]

theorem resultInv_okRegs {s : State} {tag : ResTag} {data : Bytes} (hdel : DeliverableAs s.params tag data)
    (h : s.res = okRegs tag data) : ResultInv s := by
  constructor <;> simp [h, okRegs, hdel]

theorem deliverableAs_bytes {p : Params} {data : Bytes} (h : data.length ≤ p.resCap) : DeliverableAs p .bytes data :=
  ⟨resCap_eq p ▸ h, nofun, nofun, nofun⟩

theorem deliverableAs_int {p : Params} {data : Bytes} (h : data.length ≤ p.resCap) (hne : data ≠ []) :
    DeliverableAs p .int data :=
  ⟨resCap_eq p ▸ h, nofun, fun _ => hne, nofun⟩

theorem deliverableAs_str {p : Params} {data : Bytes} (h : data.length ≤ p.resCap) : DeliverableAs p .str data :=
  ⟨resCap_eq p ▸ h, nofun, nofun, nofun⟩

theorem deliverableAs_void (p : Params) : DeliverableAs p .void [] :=
  ⟨Nat.zero_le _, fun _ => rfl, nofun, nofun⟩

theorem deliverableAs_bool (p : Params) (b : Bool) : DeliverableAs p .bool [boolByte b] := by
  refine ⟨?_, nofun, nofun, fun _ => ?_⟩
  · have hcap := le_resCap p
    rw [← resCap_eq, List.length_singleton]
    omega
  · cases b
    · exact .inl rfl
    · exact .inr rfl

/-- The data of a reply may be delivered as its format says, when a numeric one has a width (rules R28, R199 to R202). -/
theorem deliverableAs_of_deliveredBy {p : Params} {fmt : BitVec 3} {len : Nat} {d data : Bytes} {tag : ResTag}
    (hnamed : fmtNamed fmt) (hfits : d.length ≤ p.resCap) (hne : fmtInt fmt → d ≠ [])
    (h : deliveredBy fmt len d tag data) : DeliverableAs p tag data := by
  obtain ⟨hint, hbytes, hstr, hovr⟩ := h
  have hcode : fmtInt fmt ∨ (fmt = 1 ∨ fmt = 5) ∨ fmt = 2 ∨ fmt = 6 := by
    unfold fmtNamed at hnamed
    unfold fmtInt
    revert hnamed
    clear * -
    revert fmt
    decide
  obtain hf | hf | hf | hf := hcode
  · obtain ⟨rfl, rfl⟩ := hint hf
    exact deliverableAs_int (by rwa [List.length_reverse]) (by simpa using hne hf)
  · obtain ⟨rfl, rfl⟩ := hbytes hf
    exact deliverableAs_bytes hfits
  · obtain ⟨rfl, rfl⟩ := hstr hf
    exact deliverableAs_str hfits
  · obtain ⟨rfl, rfl⟩ := hovr hf
    exact deliverableAs_str (Nat.le_trans (List.length_take_le' _ _) hfits)

/-- Whatever the parse of a buffer within RES_CAP answers may be delivered, once the acceptance checks have passed
(rules R28, R199 to R205). -/
theorem deliverableAs_of_parse {p : Params} {k : Kind} {buf : Bytes} {o : Operands} {v : Value}
    (haccept : acceptFailure p k o = none) (hbuf : buf.length ≤ p.resCap) (h : (parse p k buf o).out = .ok v) :
    DeliverableAs p v.tag v.data := by
  have hreply : ∀ cmdChar cmd, fieldFailure p o = none → (parseReply p cmdChar cmd buf o).out = .ok v →
      DeliverableAs p v.tag v.data := by
    intro cmdChar cmd hfields hout
    have haccepted := fieldFailure_eq_none_iff.mp hfields
    obtain ⟨d, rest, c, hd, heq, hwidth, -, -, hdel⟩ := parseReply_ok haccepted hout
    obtain ⟨hnamed, -⟩ := haccepted
    have hlong := length_reply heq hd
    refine deliverableAs_of_deliveredBy hnamed (by omega) (fun hint hnil => ?_) hdel
    obtain ⟨hpos, -⟩ := hwidth hint
    exact hpos (by rw [← hd, hnil, List.length_nil])
  cases k with
  | restart => cases h
  | read => exact hreply _ _ haccept h
  | write => exact hreply _ _ haccept h
  | ping =>
    have hping : pingParse p buf = .ok v := h
    cases hrule : p.pingRule with
    | default =>
      rw [pingParse_default hrule, pingParseDefault] at hping
      repeat' split at hping
      all_goals cases hping
      exact deliverableAs_bytes (by rw [List.length_dropLast]; omega)
    | unknown =>
      rw [pingParse_unknown hrule] at hping
      obtain ⟨w, -, hdel, hv⟩ | ⟨w, -, -, hv⟩ | ⟨code, -, -, hv⟩ | ⟨-, hv⟩ :=
        properVerdict_cases p (Config.pingParse buf)
      · obtain rfl := Verdict.ok.inj (hv.symm.trans hping)
        exact hdel
      · cases hv.symm.trans hping
      · cases hv.symm.trans hping
      · cases hv.symm.trans hping

/-! The buffers, read whole. -/

theorem BufferInv.exists_capture {s : State} (h : BufferInv s) : ∃ buf, s.capture = some buf :=
  Memory.readBytes_isSome fun i hi => (h.rxCells (0 + i)).mpr (by omega)

theorem length_capture {s : State} {buf : Bytes} (h : s.capture = some buf) : buf.length = s.rxLen := by
  obtain ⟨hlen, -⟩ := Memory.readBytes_eq_some.mp h
  exact hlen

/-! The moves. -/

/-- A transaction may deliver only results that agree among themselves. -/
theorem resultInv_of_concludes {k : Kind} {s t : State} {r : ResultRegs} (h : Inv s) (hb : s.st ≠ .idle)
    (hk : Kind.ofOpr s.cmd.opr = some k) (hr : Concludes k s r) (hres : t.res = r) (hparams : t.params = s.params) :
    ResultInv t := by
  obtain ⟨code, hcode, rfl⟩ | rfl | ⟨v, buf, hbuf, hout, rfl⟩ := hr
  · exact resultInv_failRegs hcode hres
  · exact resultInv_okRegs (deliverableAs_void _) hres
  · refine resultInv_okRegs (hparams ▸ ?_) hres
    obtain ⟨k', f, hk', haccept, -⟩ := h.held hb
    obtain rfl : k = k' := Option.some.inj (hk.symm.trans hk')
    have hcap : buf.length ≤ s.params.resCap := by
      obtain ⟨-, -, hrx, -⟩ := le_resCap s.params
      exact length_capture hbuf ▸ h.buffers.rxFits.trans hrx
    exact deliverableAs_of_parse haccept hcap hout

/-- A RESTART is only in Sending or Exhausted, so it is in no state that an advance leaves (rules R243, R251). -/
theorem Advances.not_restart {k : Kind} {s : State} {es : List Event} {x : EngineState} {p : Nat} (h : Inv s)
    (hk : Kind.ofOpr s.cmd.opr = some k) (hadv : Advances k s es x p) : s.cmd.opr ≠ 10#4 := by
  intro hopr
  have hkind : k = .restart := by
    rw [hopr] at hk
    exact (Option.some.inj hk).symm
  have hphase := h.phase.restart
  cases hadv with
  | written f a hst hf hne => exact hne hkind
  | exhausted hst hne => exact hne hkind
  | polledAgain a t hst hp => simp [hst, hopr] at hphase
  | polledLast a hst => simp [hst, hopr] at hphase
  | available a hst => simp [hst, hopr] at hphase
  | drainBound hst => simp [hst, hopr] at hphase
  | nothingMore a hst hd => simp [hst, hopr] at hphase
  | noByte a b hst hd => simp [hst, hopr] at hphase
  | accepted hst => simp [hst, hopr] at hphase
  | noise hst => simp [hst, hopr] at hphase
  | toParser hst => simp [hst, hopr] at hphase

/-- What the states that hold a capture ask of the counters, in one. -/
theorem phaseInv_captured {s : State} {x : EngineState} {p : Nat}
    (hx : x = .draining ∨ x = .classifying ∨ x = .accepted ∨ x = .noisyRetry) (hrx : s.rxLen = s.dcnt)
    (hccnt : s.ccnt < s.att) (hopr : s.cmd.opr ≠ 10#4) : PhaseInv { s with st := x, pcnt := p } := by
  obtain rfl | rfl | rfl | rfl := hx <;> constructor <;> simp [hrx, hccnt, hopr]

/-- An advance leaves a state that is not Idle, with PCNT within its bound and the counters as the state asks. -/
theorem Advances.phase {k : Kind} {s : State} {es : List Event} {x : EngineState} {p : Nat} (h : Inv s)
    (hopr : s.cmd.opr ≠ 10#4) (hadv : Advances k s es x p) :
    s.st ≠ .idle ∧ x ≠ .idle ∧ p ≤ s.params.nPoll ∧ PhaseInv { s with st := x, pcnt := p } := by
  have hpcnt := h.counters.pcnt
  have hcaptured := h.phase.captured
  have hccnt := h.phase.beforeRecovery
  cases hadv with
  | written f a hst hf hne =>
    obtain ⟨hrx, hp, hd⟩ := h.phase.sending hst
    have hpos : 0 < s.params.nPoll := Nat.succ_pos _
    have hc := hccnt (.inl hst)
    exact ⟨by simp [hst], nofun, hpcnt, by constructor <;> simp [hrx, hd, hp, hpos, hc, hopr]⟩
  | polledAgain a t hst hp =>
    obtain ⟨hrx, hd, -⟩ := h.phase.awaiting hst
    have hc := hccnt (.inr (.inl hst))
    exact ⟨by simp [hst], by simp [hst], hp.le, by constructor <;> simp [hst, hrx, hd, hp, hc, hopr]⟩
  | polledLast a hst =>
    obtain ⟨hrx, hd, hp⟩ := h.phase.awaiting hst
    have hc := hccnt (.inr (.inl hst))
    exact ⟨by simp [hst], nofun, hp, phaseInv_captured (.inr (.inl rfl)) (hrx.trans hd.symm) hc hopr⟩
  | available a hst =>
    obtain ⟨hrx, hd, hp⟩ := h.phase.awaiting hst
    have hc := hccnt (.inr (.inl hst))
    exact ⟨by simp [hst], nofun, hpcnt, phaseInv_captured (.inl rfl) (hrx.trans hd.symm) hc hopr⟩
  | drainBound hst | nothingMore _ hst _ | noByte _ _ hst _ =>
    have hc := hccnt (.inr (.inr (.inl hst)))
    exact ⟨by simp [hst], nofun, hpcnt, phaseInv_captured (.inr (.inl rfl)) (hcaptured (.inl hst)) hc hopr⟩
  | accepted hst =>
    have hc := hccnt (.inr (.inr (.inr (.inl hst))))
    exact ⟨by simp [hst], nofun, hpcnt, phaseInv_captured (.inr (.inr (.inl rfl))) (hcaptured (.inr (.inl hst))) hc hopr⟩
  | noise hst =>
    have hc := hccnt (.inr (.inr (.inr (.inl hst))))
    exact ⟨by simp [hst], nofun, hpcnt, phaseInv_captured (.inr (.inr (.inr rfl))) (hcaptured (.inr (.inl hst))) hc hopr⟩
  | toParser hst => exact ⟨by simp [hst], nofun, hpcnt, by constructor <;> simp [hopr]⟩
  | exhausted hst hne => exact ⟨by simp [hst], nofun, hpcnt, by constructor <;> simp [hopr]⟩

/-- A new state of the engine keeps the invariant when its counters are as that state asks. -/
theorem inv_phase {s : State} {x : EngineState} {p : Nat} (h : Inv s) (hb : s.st ≠ .idle) (hx : x ≠ .idle)
    (hp : p ≤ s.params.nPoll) (hphase : PhaseInv { s with st := x, pcnt := p }) :
    Inv { s with st := x, pcnt := p } where
  latched := h.latched.of_eq rfl rfl
  result := ⟨h.result.none, h.result.ok, h.result.fail⟩
  buffers := ⟨h.buffers.txWf, h.buffers.rxWf, h.buffers.txCells, h.buffers.rxCells, h.buffers.txFits, h.buffers.rxFits⟩
  counters := ⟨h.counters.att, h.counters.ccnt, hp, h.counters.dcnt⟩
  idle := ⟨fun hi => absurd hi hx, fun hi => absurd hi hx, fun hi => absurd hi hx⟩
  busy := ⟨fun _ => h.busy.opened hb, fun _ => h.busy.started hb, fun _ => h.busy.noResult hb,
    fun _ => h.busy.noWarning hb⟩
  phase := hphase
  held := h.held.of_eq hb rfl rfl rfl rfl

/-- A byte written at the end of the capture is the one more that has a value (rules R38, R61). -/
theorem rxCells_write {s : State} (h : BufferInv s) (v : Byte) (a : Nat) :
    (Memory.read (Memory.write s.rxBuf s.rxLen v) a).isSome = true ↔ a < s.rxLen + 1 := by
  by_cases ha : a = s.rxLen
  · subst ha
    simp
  · rw [Memory.read_write_other _ _ _ _ ha, h.rxCells]
    omega

theorem inv_capture {s : State} (h : Inv s) (hst : s.st = .draining) (hd : s.dcnt < s.params.nDrain)
    (hroom : s.rxLen < rxCap s.params) (v : Byte) :
    Inv { s with rxBuf := Memory.write s.rxBuf s.rxLen v, rxLen := s.rxLen + 1, dcnt := s.dcnt + 1 } := by
  have hb : s.st ≠ .idle := by simp [hst]
  have hrx := h.phase.captured (.inl hst)
  have hc := h.phase.beforeRecovery (.inr (.inr (.inl hst)))
  have hopr := h.phase.restart hb
  exact
    { latched := h.latched.of_eq rfl rfl
      result := ⟨h.result.none, h.result.ok, h.result.fail⟩
      buffers := ⟨h.buffers.txWf, Memory.wf_write _ _ h.buffers.rxWf, h.buffers.txCells, rxCells_write h.buffers v,
        h.buffers.txFits, hroom⟩
      counters := ⟨h.counters.att, h.counters.ccnt, h.counters.pcnt, hd⟩
      idle := ⟨fun hi => absurd hi hb, fun hi => absurd hi hb, fun hi => absurd hi hb⟩
      busy := ⟨h.busy.opened, h.busy.started, h.busy.noResult, h.busy.noWarning⟩
      phase := by
        constructor <;> simp [hst, hrx, hc] at hopr ⊢
        exact hopr
      held := h.held }

/-- Only before the recovery sequence is CCNT below ATT, so that it can rise in it (rules R33, R240). -/
theorem AttemptEnds.ccnt_le {s : State} {es : List Event} {c : Nat} (h : Inv s) (ha : AttemptEnds s es c) :
    s.st ≠ .idle ∧ c ≤ s.att := by
  cases ha with
  | shortWrite f a hst hf => exact ⟨by simp [hst], h.counters.ccnt⟩
  | recovered a b c t u hst => exact ⟨by simp [hst], h.phase.beforeRecovery (.inr (.inr (.inr (.inr (.inr hst)))))⟩

theorem TransactionEnds.ccnt_le {s : State} {es : List Event} {c : Nat} (h : Inv s) (ha : TransactionEnds s es c) :
    s.st ≠ .idle ∧ c ≤ s.att := by
  have hccnt := h.counters.ccnt
  cases ha with
  | cancelled _ hst | discarded _ _ hst | flushed _ _ _ _ hst =>
    exact ⟨by simp [hst], h.phase.beforeRecovery (.inr (.inr (.inr (.inr (.inr hst)))))⟩
  | written _ _ hst | polled _ hst | drainPolled _ hst | drainRead _ _ hst | parsed hst | exhausted hst =>
    exact ⟨by simp [hst], hccnt⟩

/-- Entry to Sending starts an attempt with an empty capture (rule R225). -/
theorem inv_enterSending {s : State} {c : Nat} (h : Inv s) (hb : s.st ≠ .idle) (hc : c ≤ s.att)
    (hatt : s.att < maxAttempts) : Inv { s with ccnt := c }.enterSending where
  latched := h.latched.of_eq rfl rfl
  result := ⟨h.result.none, h.result.ok, h.result.fail⟩
  buffers := ⟨h.buffers.txWf, Memory.wf_nil, h.buffers.txCells, by simp, h.buffers.txFits, Nat.zero_le _⟩
  counters := ⟨hatt, Nat.le_succ_of_le hc, Nat.zero_le _, Nat.zero_le _⟩
  idle := ⟨nofun, nofun, nofun⟩
  busy := ⟨fun _ => h.busy.opened hb, fun _ => Nat.le_add_left 1 _, fun _ => h.busy.noResult hb,
    fun _ => h.busy.noWarning hb⟩
  phase := by constructor <;> simp [Nat.lt_succ_iff.mpr hc]
  held := h.held.of_eq hb rfl rfl rfl rfl

/-- After the fifth attempt the capture stays for the parser (rules R227, R242). -/
theorem inv_exhausted {s : State} {c : Nat} (h : Inv s) (hb : s.st ≠ .idle) (hc : c ≤ s.att)
    (hatt : maxAttempts ≤ s.att) : Inv { s with ccnt := c, st := .exhausted } where
  latched := h.latched.of_eq rfl rfl
  result := ⟨h.result.none, h.result.ok, h.result.fail⟩
  buffers := ⟨h.buffers.txWf, h.buffers.rxWf, h.buffers.txCells, h.buffers.rxCells, h.buffers.txFits, h.buffers.rxFits⟩
  counters := ⟨h.counters.att, hc, h.counters.pcnt, h.counters.dcnt⟩
  idle := ⟨nofun, nofun, nofun⟩
  busy := ⟨fun _ => h.busy.opened hb, fun _ => h.busy.started hb, fun _ => h.busy.noResult hb,
    fun _ => h.busy.noWarning hb⟩
  phase := by constructor <;> simp [Nat.le_antisymm h.counters.att hatt]
  held := h.held.of_eq hb rfl rfl rfl rfl

theorem inv_nextAttempt {s : State} {es : List Event} {c : Nat} (h : Inv s) (hend : AttemptEnds s es c) :
    Inv ({ s with ccnt := c }.after es).nextAttempt := by
  obtain ⟨hb, hc⟩ := hend.ccnt_le h
  obtain ⟨hatt, he⟩ | ⟨hatt, he⟩ := ({ s with ccnt := c }.after es).nextAttempt_cases
  all_goals rw [State.after_att] at hatt
  · exact (inv_enterSending h hb hc hatt).of_inner_eq (by rw [he, State.after_eq]; rfl)
  · exact (inv_exhausted h hb hc hatt).of_inner_eq (by rw [he, State.after_eq]; rfl)

/-- The end of a transaction leaves the block as Idle asks, with a result that agrees. -/
theorem inv_finished {k : Kind} {s : State} {es : List Event} {c : Nat} {w close : Bool} {r : ResultRegs} (h : Inv s)
    (hk : Kind.ofOpr s.cmd.opr = some k) (hend : TransactionEnds s es c) (hclose : s.chOpen = true → close = true)
    (hr : Concludes k s r) : Inv (({ s with ccnt := c, csw := w }.after es).finished close r) := by
  obtain ⟨hb, hc⟩ := hend.ccnt_le h
  obtain rfl := hclose (h.busy.opened hb)
  have hfinished : Inv ({ s with ccnt := c, csw := w }.finished true r) := by
    refine inv_of_idle rfl (h.latched.of_eq rfl rfl)
      (resultInv_of_concludes h hb hk hr rfl rfl) (bufferInv_of_empty rfl rfl rfl rfl)
      ⟨h.counters.att, hc, h.counters.pcnt, h.counters.dcnt⟩ rfl rfl rfl
  exact hfinished.of_inner_eq (by rw [State.after_eq]; rfl)

/-- Every move keeps the invariant. -/
theorem EngineMove.inv {k : Kind} {s t : State} (h : Inv s) (hk : Kind.ofOpr s.cmd.opr = some k)
    (hmove : EngineMove k s t) : Inv t := by
  cases hmove with
  | advance es x p hadv =>
    obtain ⟨hb, hx, hp, hphase⟩ := hadv.phase h (hadv.not_restart h hk)
    exact (inv_phase h hb hx hp hphase).of_inner_eq (by rw [State.after_eq]; rfl)
  | capture a b t v hst hd hroom =>
    exact (inv_capture h hst hd hroom v).of_inner_eq (by rw [State.after_eq]; rfl)
  | attempt es c hend => exact inv_nextAttempt h hend
  | finish es c w close r hend hclose hr => exact inv_finished h hk hend hclose hr

theorem inv_engineStep {s t : State} (h : Inv s) (hstep : engineStep s = .next t) : Inv t := by
  obtain ⟨-, rfl⟩ | ⟨-, k, hk, hmove⟩ := engineStep_move hstep
  · exact h
  · exact hmove.inv h hk

end Sys2Proof.Machine
end

section
/-! PROOFS. Each operation and each step keeps the invariant (`10_state.md` sections 2 to 6), and none faults under it. -/

namespace Sys2Proof.Machine

/-! What a unit operation answers. -/

/-- A verdict the result registers can show: a value rule R28 allows, or a failure with a code (rules R28, R29). -/
def Proper (p : Params) (v : Verdict Value) : Prop :=
  (∀ x, v = .ok x → DeliverableAs p x.tag x.data) ∧ ∀ c, v = .fail c → c ≠ .noFailure

theorem proper_ok {p : Params} {tag : ResTag} {data : Bytes} (h : DeliverableAs p tag data) :
    Proper p (.ok { tag := tag, data := data }) := by
  refine ⟨?_, nofun⟩
  rintro _ ⟨⟩
  exact h

theorem proper_fail {p : Params} {c : FailCode} (h : c ≠ .noFailure) : Proper p (.fail c) := by
  refine ⟨nofun, ?_⟩
  rintro _ ⟨⟩
  exact h

section
variable {p : Params} {o : Operands} (hwf : o.wellFormed p = true)
include hwf

/-- The operand buffer is half of what a result may hold (rules R10, R26). -/
theorem length_abuf_le : 2 * o.abuf.length ≤ p.resCap := by
  obtain ⟨-, habuf, -⟩ := (wellFormed_operands_iff p o).mp hwf
  obtain ⟨hcap, -⟩ := le_resCap p
  omega

theorem proper_hexenc : Proper p (.ok { tag := .bytes, data := hexenc o.abuf }) :=
  proper_ok (deliverableAs_bytes (length_hexenc o.abuf ▸ length_abuf_le hwf))

theorem proper_hexdec : Proper p (hexdecValue o.abuf) := by
  have hcap := length_abuf_le hwf
  obtain heven | hodd := Nat.mod_two_eq_zero_or_one o.abuf.length
  · obtain ⟨-, h⟩ | ⟨-, bs, h, henc⟩ := hexdec_cases heven
    · rw [hexdecValue_of_fail h]
      exact proper_fail (by decide)
    · rw [hexdecValue_of_ok h]
      have hlen := length_hexenc bs
      rw [henc] at hlen
      exact proper_ok (deliverableAs_bytes (by omega))
  · rw [hexdecValue_of_fail (hexdec_of_odd hodd)]
    exact proper_fail (by decide)

theorem proper_brev : Proper p (brevValue p o.abuf) := by
  by_cases hwidth : widthOk p o.abuf.length
  · have hcap := length_abuf_le hwf
    rw [brevValue_of_widthOk hwidth]
    exact proper_ok (deliverableAs_bytes (by rw [List.length_reverse]; omega))
  · rw [brevValue_of_not_widthOk hwidth]
    exact proper_fail (by decide)

end

/-- The representation of an integer in one byte or more may be delivered, where RES_CAP has room for it. -/
theorem proper_beBytes {p : Params} {n : Nat} (x : Int) (hpos : 0 < n) (hcap : n ≤ p.resCap) :
    Proper p (.ok { tag := .int, data := beBytes n x }) := by
  have hlen := length_beBytes n x
  refine proper_ok (deliverableAs_int (by rwa [hlen]) fun hnil => ?_)
  rw [hnil, List.length_nil] at hlen
  omega

theorem proper_twosc (p : Params) (o : Operands) : Proper p (twoscValue p o) := by
  unfold twoscValue
  split
  next h =>
    obtain ⟨hpos, hmax, -⟩ := (twoscInRange_iff p o).mp h
    obtain ⟨hcap, -⟩ := twMax_bytes_le p hmax
    exact proper_beBytes _ (by omega) hcap
  next => exact proper_fail (by decide)

theorem proper_touns (p : Params) (o : Operands) : Proper p (tounsValue p o) := by
  unfold tounsValue
  split
  next h =>
    obtain ⟨-, hmax, -⟩ := (tounsInRange_iff p o).mp h
    obtain ⟨-, hcap⟩ := twMax_bytes_le p hmax
    exact proper_beBytes _ (Nat.succ_pos _) hcap
  next => exact proper_fail (by decide)

theorem proper_csum (p : Params) (P : Bytes) : Proper p (.ok { tag := .bytes, data := [checksum P] }) := by
  obtain ⟨-, -, -, hcap⟩ := le_resCap p
  exact proper_ok (deliverableAs_bytes (Nat.le_trans (by simp) hcap))

/-- The checks of acceptance fail with FORMAT or OPERAND_RANGE (rules R111, R113). -/
theorem acceptFailure_code {p : Params} {k : Kind} {o : Operands} {c : FailCode} (h : acceptFailure p k o = some c) :
    c = .format ∨ c = .operandRange := by
  have hfield : fieldFailure p o = some c → c = .format ∨ c = .operandRange := by
    intro h
    rw [fieldFailure] at h
    repeat' split at h
    all_goals cases h <;> simp
  cases k with
  | ping => cases h
  | restart => cases h
  | read => exact hfield h
  | write => exact hfield h

/-- The builder fails with WIDTH alone (rule R171). -/
theorem build_code {p : Params} {k : Kind} {o : Operands} {c : FailCode} (h : build p k o = .fail c) : c = .width := by
  cases k with
  | ping => cases h
  | restart => cases h
  | read => cases h
  | write =>
    rw [build] at h
    split at h <;> cases h
    rfl

theorem proper_build (p : Params) (o : Operands) : Proper p (buildValue p o) := by
  unfold buildValue
  split
  next c hc =>
    obtain rfl | rfl := acceptFailure_code hc <;> exact proper_fail (by decide)
  next hc =>
    split
    next f hf =>
      obtain ⟨-, hcap, -⟩ := le_resCap p
      exact proper_ok (deliverableAs_bytes ((length_build_le hc hf).trans hcap))
    next c hf =>
      obtain rfl := build_code hf
      exact proper_fail (by decide)

theorem proper_parse {p : Params} {o : Operands} (hwf : o.wellFormed p = true) :
    Proper p (parseOperand p o).out := by
  have hcap := length_abuf_le hwf
  unfold parseOperand
  split
  next c hc =>
    obtain rfl | rfl := acceptFailure_code hc <;> exact proper_fail (by decide)
  next hc => exact ⟨fun v hv => deliverableAs_of_parse hc (by omega) hv, fun c => parse_fail_ne_noFailure⟩

/-- What an operation does in Idle: a unit operation delivers a proper verdict, where its operands fit the port; a
transaction operation begins. -/
theorem exec_idle_cases (i : Instr) {s : State} (hi : s.st = .idle) :
    (Kind.ofOpr i.opr = none ∧ ∃ m v, exec i s = .next (((s.acceptCommand (encode i)).noteCsw m).finishUnit v) ∧
      (i.wellFormed s.params = true → Proper s.params v)) ∨
    ∃ k, Kind.ofOpr i.opr = some k ∧ exec i s = (s.acceptCommand (encode i)).beginTransaction k := by
  have hunit : ∀ (i : Instr) (v : State → Verdict Value), Kind.ofOpr i.opr = none →
      (exec i s = onAccept (encode i) s fun t => .next (t.finishUnit (v t))) →
      (i.wellFormed s.params = true → Proper s.params (v (s.acceptCommand (encode i)))) →
      Kind.ofOpr i.opr = none ∧ ∃ m v, exec i s = .next (((s.acceptCommand (encode i)).noteCsw m).finishUnit v) ∧
        (i.wellFormed s.params = true → Proper s.params v) := by
    intro i v hk he hv
    refine ⟨hk, false, v (s.acceptCommand (encode i)), ?_, hv⟩
    rw [he, onAccept_idle _ _ _ hi]
    rfl
  cases i with
  | hexenc o => exact .inl (hunit _ (fun t => .ok { tag := .bytes, data := hexenc t.cmd.operands.abuf }) rfl rfl proper_hexenc)
  | hexdec o => exact .inl (hunit _ (fun t => hexdecValue t.cmd.operands.abuf) rfl rfl proper_hexdec)
  | twosc o => exact .inl (hunit _ (fun t => twoscValue t.params t.cmd.operands) rfl rfl fun _ => proper_twosc _ o)
  | touns o => exact .inl (hunit _ (fun t => tounsValue t.params t.cmd.operands) rfl rfl fun _ => proper_touns _ o)
  | brev o => exact .inl (hunit _ (fun t => brevValue t.params t.cmd.operands.abuf) rfl rfl proper_brev)
  | csum o =>
    exact .inl (hunit _ (fun t => .ok { tag := .bytes, data := [checksum t.cmd.operands.abuf] }) rfl rfl
      fun _ => proper_csum _ _)
  | csumchk o =>
    exact .inl (hunit _
      (fun t => .ok { tag := .bool, data := [boolByte (csumchk t.cmd.operands.abuf t.cmd.operands.ac)] }) rfl rfl
      fun _ => proper_ok (deliverableAs_bool _ _))
  | build o => exact .inl (hunit _ (fun t => buildValue t.params t.cmd.operands) rfl rfl fun _ => proper_build _ o)
  | parse o => exact .inl ⟨rfl, _, _, execParse_idle hi, proper_parse⟩
  | ping o => exact .inr ⟨.ping, rfl, onAccept_idle _ _ (·.beginTransaction .ping) hi⟩
  | restart o => exact .inr ⟨.restart, rfl, onAccept_idle _ _ (·.beginTransaction .restart) hi⟩
  | read o => exact .inr ⟨.read, rfl, onAccept_idle _ _ (·.beginTransaction .read) hi⟩
  | write o => exact .inr ⟨.write, rfl, onAccept_idle _ _ (·.beginTransaction .write) hi⟩
  | reserved13 o | reserved14 o | reserved15 o =>
    exact .inl (hunit _ (fun _ => .fail .illegalOp) rfl rfl fun _ => proper_fail (by decide))

/-! Acceptance, and what follows it. -/

/-- A block in Idle that has accepted a command: the invariant holds with the command's latches and no result yet. -/
theorem inv_acceptCommand {s : State} {c : Command} (h : Inv s) (hi : s.st = .idle)
    (hwf : c.operands.wellFormed s.params = true) : Inv (s.acceptCommand c) := by
  obtain ⟨hval, habuf, hav, haw⟩ := (wellFormed_operands_iff _ _).mp hwf
  exact inv_of_idle hi ⟨hval, habuf, hav, haw⟩ (resultInv_cleared rfl)
    ⟨h.buffers.txWf, h.buffers.rxWf, h.buffers.txCells, h.buffers.rxCells, h.buffers.txFits, h.buffers.rxFits⟩
    ⟨h.counters.att, h.counters.ccnt, h.counters.pcnt, h.counters.dcnt⟩ (h.idle.closed hi) (h.idle.txEmpty hi)
    (h.idle.rxEmpty hi)

/-- A failure with the channel closed empties the buffers and shows its code. -/
theorem inv_raiseFailure {s : State} {code : FailCode} (hlatched : LatchInv s) (hcounters : CounterInv s)
    (hclosed : s.chOpen = false) (hcode : code ≠ .noFailure) : Inv (s.raiseFailure false code) :=
  inv_of_idle rfl (hlatched.of_eq rfl rfl) (resultInv_failRegs hcode rfl)
    (bufferInv_of_empty rfl rfl rfl rfl) ⟨hcounters.att, hcounters.ccnt, hcounters.pcnt, hcounters.dcnt⟩ hclosed rfl rfl

/-- The result of a unit operation, a proper verdict, keeps the invariant. -/
theorem inv_finishUnit {s : State} {m : Bool} {v : Verdict Value} (h : Inv s) (hi : s.st = .idle)
    (hv : Proper s.params v) : Inv ((s.noteCsw m).finishUnit v) := by
  have hclosed := h.idle.closed hi
  cases v with
  | ok x =>
    exact inv_of_idle hi (h.latched.of_eq rfl rfl) (resultInv_okRegs (hv.1 x rfl) rfl)
      ⟨h.buffers.txWf, h.buffers.rxWf, h.buffers.txCells, h.buffers.rxCells, h.buffers.txFits, h.buffers.rxFits⟩
      ⟨h.counters.att, h.counters.ccnt, h.counters.pcnt, h.counters.dcnt⟩ hclosed (h.idle.txEmpty hi)
      (h.idle.rxEmpty hi)
  | fail c =>
    exact inv_raiseFailure (h.latched.of_eq rfl rfl)
      ⟨h.counters.att, h.counters.ccnt, h.counters.pcnt, h.counters.dcnt⟩ hclosed (hv.2 c rfl)

theorem inv_startTransaction {s : State} (h : Inv s) (hi : s.st = .idle) : Inv s.startTransaction :=
  inv_of_idle hi (h.latched.of_eq rfl rfl)
    ⟨h.result.none, h.result.ok, h.result.fail⟩ (bufferInv_of_empty rfl rfl rfl rfl)
    ⟨Nat.zero_le _, Nat.le_refl _, Nat.zero_le _, Nat.zero_le _⟩ (h.idle.closed hi) rfl rfl

/-- The bytes of a frame written from index 0 are exactly the indices below its length (rules R37, R61). -/
theorem txCells_writeBytes (f : Bytes) (a : Nat) :
    (Memory.read (Memory.writeBytes [] 0 f) a).isSome = true ↔ a < f.length := by
  rw [Memory.read_writeBytes]
  by_cases ha : a < f.length
  · simp [ha]
  · simp [ha]

@[simp] theorem State.readyToOpen_cmd (s : State) (f : Bytes) : (s.readyToOpen f).cmd = s.cmd := rfl
@[simp] theorem State.readyToOpen_res (s : State) (f : Bytes) : (s.readyToOpen f).res = s.res := rfl
@[simp] theorem State.readyToOpen_csw (s : State) (f : Bytes) : (s.readyToOpen f).csw = s.csw := rfl
@[simp] theorem State.readyToOpen_att (s : State) (f : Bytes) : (s.readyToOpen f).att = 0 := rfl
@[simp] theorem State.readyToOpen_ccnt (s : State) (f : Bytes) : (s.readyToOpen f).ccnt = 0 := rfl
@[simp] theorem State.readyToOpen_pcnt (s : State) (f : Bytes) : (s.readyToOpen f).pcnt = 0 := rfl
@[simp] theorem State.readyToOpen_dcnt (s : State) (f : Bytes) : (s.readyToOpen f).dcnt = 0 := rfl
@[simp] theorem State.readyToOpen_txLen (s : State) (f : Bytes) : (s.readyToOpen f).txLen = f.length := rfl
@[simp] theorem State.readyToOpen_params (s : State) (f : Bytes) : (s.readyToOpen f).params = s.params := rfl

/-- A transaction whose channel has opened: Sending with its frame held (rules R224, R225). -/
theorem inv_opened {s : State} {k : Kind} {f : Bytes} (h : Inv s) (hres : s.res = ResultRegs.cleared)
    (hcsw : s.csw = false) (hk : Kind.ofOpr s.cmd.opr = some k)
    (haccept : acceptFailure s.params k s.cmd.operands = none) (hf : build s.params k s.cmd.operands = .ok f) :
    Inv (s.readyToOpen f).channelOpened.enterSending where
  latched := h.latched.of_eq rfl rfl
  result := resultInv_cleared hres
  buffers :=
    { txWf := Memory.wf_writeBytes 0 f Memory.wf_nil
      rxWf := Memory.wf_nil
      txCells := txCells_writeBytes f
      rxCells := by simp
      txFits := by simpa using length_build_le haccept hf
      rxFits := by simp }
  counters := by constructor <;> simp [maxAttempts]
  idle := by constructor <;> simp
  busy := by constructor <;> simp [hres, hcsw]
  phase := by constructor <;> simp
  held := by
    intro _
    have hframe : (s.readyToOpen f).channelOpened.enterSending.frame = some f := Memory.readBytes_writeBytes [] 0 f
    exact ⟨k, f, by simpa [hframe] using ⟨hk, haccept, hf⟩⟩

/-- A transaction that requests ChOpen is in Sending, or has failed with CH_OPEN (rules R224, R302). -/
theorem inv_openChannel {s : State} {k : Kind} {f : Bytes} (h : Inv s) (hres : s.res = ResultRegs.cleared)
    (hcsw : s.csw = false) (hk : Kind.ofOpr s.cmd.opr = some k)
    (haccept : acceptFailure s.params k s.cmd.operands = none) (hf : build s.params k s.cmd.operands = .ok f) :
    Inv (s.readyToOpen f).openChannel := by
  obtain ⟨-, he⟩ | ⟨-, he⟩ := (s.readyToOpen f).openChannel_cases <;> rw [he]
  · rw [State.raiseFailure_true_eq]
    exact inv_raiseFailure (h.latched.of_eq rfl rfl)
      (by constructor <;> simp) rfl (by decide)
  · exact (inv_opened h hres hcsw hk haccept hf).of_inner_eq rfl

/-- Every operation keeps the invariant, where its operands fit the port. -/
theorem inv_exec {i : Instr} {s t : State} (h : Inv s) (hwf : i.wellFormed s.params = true)
    (hexec : exec i s = .next t) : Inv t := by
  by_cases hi : s.st = .idle
  · have haccepted : Inv (s.acceptCommand (encode i)) := inv_acceptCommand h hi hwf
    obtain ⟨-, m, v, he, hv⟩ | ⟨k, hk, he⟩ := exec_idle_cases i hi
    · obtain rfl := Host.Outcome.next.inj (he.symm.trans hexec)
      exact inv_finishUnit haccepted hi (hv hwf)
    · have hstarted := inv_startTransaction haccepted hi
      have hclosed := h.idle.closed hi
      obtain ⟨c, hc, rfl⟩ | ⟨haccept, ⟨c, hc, rfl⟩ | ⟨f, u, hf, hu, rfl⟩⟩ :=
        State.beginTransaction_eq_next.mp (he.symm.trans hexec)
      · exact inv_raiseFailure hstarted.latched hstarted.counters hclosed (by obtain rfl | rfl := acceptFailure_code hc <;> decide)
      · exact inv_raiseFailure hstarted.latched hstarted.counters hclosed (by obtain rfl := build_code hc; decide)
      · obtain ⟨-, rfl⟩ := State.storeFrame_eq_some.mp hu
        exact inv_openChannel haccepted rfl rfl hk haccept hf
  · obtain rfl := Host.Outcome.next.inj ((exec_busy i hi).symm.trans hexec)
    exact h.of_inner_eq rfl

/-! Every step. -/

theorem inv_hostStep {a : HostAct} {s t : State} (h : Inv s) (hstep : hostStep a s = .next t) : Inv t := by
  obtain ⟨-, he⟩ | ⟨c, i, -, hdec, he, -⟩ | ⟨cfg, rfl⟩ := hostStep_eq_next hstep
  · exact inv_engineStep h he
  · obtain ⟨hwf, -⟩ := (decodeExactlyInvertsEncode s.params c i).mp hdec
    exact inv_exec h hwf he
  · obtain ⟨-, he⟩ | ⟨-, he⟩ := s.writeConfig_cases cfg <;> rw [he]
    · exact h.of_inner_eq rfl
    · exact h

/-- Settles O10: the engine by its moves, the host by the operation presented, and RESET by the reset values. -/
theorem invKeptByEveryStep : Obligations.InvKeptByEveryStep := by
  unfold Obligations.InvKeptByEveryStep
  intro s t h hstep
  obtain ⟨-, he⟩ | ⟨x, rest, -, hreset⟩ := step_eq_next hstep
  · exact inv_engineStep h he
  · have hinput : Inv { s with hostIn := rest } := h.of_inner_eq rfl
    obtain ⟨-, he⟩ | ⟨k, u, -, -, rfl⟩ | ⟨k, -, -, rfl⟩ := withReset_eq_next hreset
    · exact inv_hostStep hinput he
    · exact (inv_resetRegs s).of_inner_eq rfl
    · exact inv_resetRegs _

/-! No fault. -/

/-- An operation always answers a next state: the frame of a command that passes the checks fits TXBUF. -/
theorem exists_exec (i : Instr) (s : State) : ∃ t, exec i s = .next t := by
  by_cases hi : s.st = .idle
  · obtain ⟨-, m, v, he, -⟩ | ⟨k, -, he⟩ := exec_idle_cases i hi
    · exact ⟨_, he⟩
    · rw [he]
      cases haccept : acceptFailure s.params k i.operands with
      | some c => exact ⟨_, State.beginTransaction_eq_next.mpr (.inl ⟨c, haccept, rfl⟩)⟩
      | none =>
        cases hf : build s.params k i.operands with
        | fail c => exact ⟨_, State.beginTransaction_eq_next.mpr (.inr ⟨haccept, .inl ⟨c, hf, rfl⟩⟩)⟩
        | ok f => exact ⟨_, State.beginTransaction_eq_openChannel (s := s.acceptCommand (encode i)) haccept hf⟩
  · exact ⟨_, exec_busy i hi⟩

theorem exec_ne_fault (i : Instr) (s : State) (r : Fault) : exec i s ≠ .fault r := by
  obtain ⟨t, he⟩ := exists_exec i s
  simp [he]

/-- With room for one more byte the read of a drain iteration does not fault. -/
theorem drainRead_ne_fault {s : State} {r : Fault} (hroom : s.rxLen < rxCap s.params) : drainRead s ≠ .fault r := by
  unfold drainRead
  split
  · simp [State.channelError_eq]
  · split
    · simp
    · next b _ =>
      have happend := State.appendRx_eq_some (s := s.request .chReadByte) (b := b).mpr ⟨hroom, rfl⟩
      simp only [happend]
      nofun

/-- Under the invariant the engine does not fault: a busy engine has a transaction, the buffers read whole, and the
capture has room while DCNT is below its bound. -/
theorem engineStep_ne_fault {s : State} (h : Inv s) (r : Fault) : engineStep s ≠ .fault r := by
  by_cases hb : s.st = .idle
  · simp [engineStep, (State.busy_false_iff s).mpr hb]
  · obtain ⟨k, f, hk, -, -, hf, -⟩ := h.held hb
    obtain ⟨buf, hbuf⟩ := h.buffers.exists_capture
    rw [engineStep_busy hb hk, transactionStep]
    split
    next => simp
    next =>
      simp only [sendStep, hf]
      repeat' split
      all_goals simp [State.channelError_eq]
    next =>
      unfold pollStep
      split <;> simp [State.channelError_eq]
    next hst =>
      unfold drainStep
      split
      · simp
      · next hd =>
        have hrx := h.phase.captured (.inl hst)
        split
        · simp [State.channelError_eq]
        · simp
        · exact drainRead_ne_fault (show s.rxLen < rxCap s.params by rw [rxCap]; omega)
    next => simp [classifyStep, hbuf]
    next => simp
    next =>
      unfold recoverStep recoverRead recoverFlush
      repeat' split
      all_goals simp [State.channelError_eq]
    next => simp [parsedStep, hbuf]
    next =>
      unfold exhaustedStep
      split <;> simp

theorem requireConfigured_eq_fault {s : State} {r : Result} {e : Fault} (h : requireConfigured s r = .fault e) :
    r = .fault e := by
  unfold requireConfigured at h
  split at h
  · split at h <;> cases h
  · exact h
  · cases h

theorem hostStep_ne_fault {a : HostAct} {s : State} (h : Inv s) (r : Fault) : hostStep a s ≠ .fault r := by
  cases a with
  | wait => exact engineStep_ne_fault h r
  | command c =>
    simp only [hostStep, presentCommand]
    split
    · simp
    · exact fun hf => exec_ne_fault _ _ _ (requireConfigured_eq_fault hf)
  | writeChId v =>
    simp only [hostStep, writeChId]
    split <;> simp
  | writeBaud v => simp [hostStep]
  | writeTimeout v => simp [hostStep]
  | writeDebug v => simp [hostStep]

/-- Settles O12: the engine's faults are excluded by the invariant, an operation has none, and RESET stops nothing. -/
theorem noFaultUnderInv : Obligations.NoFaultUnderInv := by
  unfold Obligations.NoFaultUnderInv
  refine fun s h => ⟨fun r => ?_, fun i r => exec_ne_fault i s r⟩
  unfold step machineStep
  split
  · exact engineStep_ne_fault h r
  · next x rest _ =>
    have hinput : Inv { s with hostIn := rest } := h.of_inner_eq rfl
    unfold inputStep withReset
    split
    · exact hostStep_ne_fault hinput r
    · split <;> simp

end Sys2Proof.Machine
end

section
/-! PROOFS. The channel event trace of a transaction (`10_state.md` section 8, `44_transaction_engine.md` section 9): what
the events of each move add to its counts, the invariant of the trace, its bounds at the end, and the bound on the number
of steps (rules R45, R247, R248). -/

namespace Sys2Proof.Machine

/-! The counts of a trace. -/

theorem countRequests_append (q : Request → Bool) (es fs : List Event) :
    countRequests q (es ++ fs) = countRequests q es + countRequests q fs := by
  induction es with
  | nil => simp [countRequests]
  | cons e es ih =>
    cases e with
    | request r a =>
      simp only [List.cons_append, countRequests, ih]
      omega
    | delay t => exact ih

theorem sends_append (f : Bytes) (es fs : List Event) : sends f (es ++ fs) = sends f es + sends f fs :=
  countRequests_append _ es fs

theorem cancels_append (p : Params) (es fs : List Event) : cancels p (es ++ fs) = cancels p es + cancels p fs :=
  countRequests_append _ es fs

/-- The trace grows by the events of a step (rule R45). -/
theorem trace_append {s t : State} {es : List Event} (hmarked : s.mark ≤ s.log.length) (hmark : t.mark = s.mark)
    (hlog : t.log = s.log ++ es) : t.trace = s.trace ++ es := by
  rw [State.trace, hlog, hmark, List.drop_append_of_le_length hmarked, State.trace]

/-- The frame held is no cancel sequence: it is longer than two bytes (rules R10, R102). -/
theorem frame_ne_cancelBytes {s : State} {f : Bytes} (h : Inv s) (hb : s.st ≠ .idle) (hf : s.frame = some f) :
    f ≠ cancelBytes s.params := by
  obtain ⟨k, g, -, -, hbuild, hg, -⟩ := h.held hb
  obtain rfl : f = g := Option.some.inj (hf.symm.trans hg)
  have hlen := length_build hbuild
  rintro rfl
  cases k <;> simp [cancelBytes, replyLen] at hlen

/-! What the events of a move add. -/

/-- The frame write that Sending has yet to make. -/
def sendsDue (s : State) : Nat := if s.st = .sending then 1 else 0

/-- The ChAvail requests the transaction may have made so far (rules R230, R236). -/
def pollBudget (s : State) : Nat := (s.att - 1) * (s.params.nPoll + s.params.nDrain) + availAllowance s

/-- The ChReadByte requests the transaction may have made so far (rules R236, R240). -/
def readBudget (s : State) : Nat := (s.att - 1) * (s.params.nDrain + 1) + readAllowance s

/-- The events of a step account for what changes from `s` to `t`: the frame writes for the attempts, the cancel writes for
CCNT, the polls and the reads for what `t` allows more. -/
structure Accounts (s t : State) (es : List Event) : Prop where
  opens : countRequests isOpen es = 0
  closes : countRequests isClose es = 0
  sent : ∀ f, s.frame = some f → sends f es + sendsDue t + s.att = t.att + sendsDue s
  cancelled : cancels s.params es + s.ccnt = t.ccnt
  polled : countRequests isAvail es + pollBudget s ≤ pollBudget t
  read : countRequests isRead es + readBudget s ≤ readBudget t

/-- One attempt more allows the polls of one attempt more. -/
theorem add_one_sub_one_mul {a : Nat} (h : 1 ≤ a) (n : Nat) : (a + 1 - 1) * n = (a - 1) * n + n := by
  obtain ⟨b, rfl⟩ := Nat.exists_eq_add_of_le' h
  simp only [Nat.add_sub_cancel]
  ring

/-- A move that stays in its attempt and writes nothing accounts for its polls and reads alone. -/
theorem accounts_of_same_attempt {s t : State} {es : List Event} (hopens : countRequests isOpen es = 0)
    (hcloses : countRequests isClose es = 0) (hsends : ∀ f, sends f es = 0) (hcancels : cancels s.params es = 0)
    (hs : s.st ≠ .sending) (ht : t.st ≠ .sending) (hatt : t.att = s.att) (hccnt : t.ccnt = s.ccnt)
    (hparams : t.params = s.params) (hpolls : countRequests isAvail es + availAllowance s ≤ availAllowance t)
    (hreads : countRequests isRead es + readAllowance s ≤ readAllowance t) : Accounts s t es where
  opens := hopens
  closes := hcloses
  sent := fun f _ => by simp [hsends, sendsDue, hs, ht, hatt]
  cancelled := by simp [hcancels, hccnt]
  polled := by
    rw [pollBudget, pollBudget, hatt, hparams]
    omega
  read := by
    rw [readBudget, readBudget, hatt, hparams]
    omega

/-- An advance accounts for its events, and flushes nothing. -/
theorem Advances.accounts {k : Kind} {s : State} {es : List Event} {x : EngineState} {p : Nat} (h : Inv s)
    (hadv : Advances k s es x p) :
    Accounts s { s.after es with st := x, pcnt := p } es ∧ countRequests isFlush es = 0 := by
  have hdcnt := h.counters.dcnt
  cases hadv with
  | written f a hst hf hk =>
    have hne := frame_ne_cancelBytes h (by simp [hst]) hf
    refine ⟨⟨rfl, rfl, fun g hg => ?_, ?_, ?_, ?_⟩, rfl⟩
    · obtain rfl : f = g := Option.some.inj (hf.symm.trans hg)
      simp [sends, countRequests, isWriteOf, sendsDue, hst, Nat.add_comm]
    · simp [cancels, countRequests, isWriteOf, hne]
    · simp [countRequests, isAvail, pollBudget, availAllowance, hst]
    · simp [countRequests, isRead, readBudget, readAllowance, hst]
  | polledAgain a t hst hp =>
    refine ⟨accounts_of_same_attempt rfl rfl (fun _ => rfl) rfl ?_ ?_ ?_ ?_ ?_ ?_ ?_, rfl⟩ <;>
      simp [hst, countRequests, isAvail, isRead, availAllowance, readAllowance, Nat.add_comm]
  | polledLast a hst =>
    obtain ⟨-, -, hp⟩ := h.phase.awaiting hst
    refine ⟨accounts_of_same_attempt rfl rfl (fun _ => rfl) rfl ?_ ?_ ?_ ?_ ?_ ?_ ?_, rfl⟩ <;>
      simp [hst, countRequests, isAvail, isRead, availAllowance, readAllowance]
    omega
  | available a hst =>
    obtain ⟨-, -, hp⟩ := h.phase.awaiting hst
    refine ⟨accounts_of_same_attempt rfl rfl (fun _ => rfl) rfl ?_ ?_ ?_ ?_ ?_ ?_ ?_, rfl⟩ <;>
      simp [hst, countRequests, isAvail, isRead, availAllowance, readAllowance]
    omega
  | drainBound hst =>
    refine ⟨accounts_of_same_attempt rfl rfl (fun _ => rfl) rfl ?_ ?_ ?_ ?_ ?_ ?_ ?_, rfl⟩ <;>
      simp [hst, countRequests, availAllowance, readAllowance, hdcnt]
  | nothingMore a hst hd =>
    refine ⟨accounts_of_same_attempt rfl rfl (fun _ => rfl) rfl ?_ ?_ ?_ ?_ ?_ ?_ ?_, rfl⟩ <;>
      simp [hst, countRequests, isAvail, isRead, availAllowance, readAllowance, hdcnt]
    omega
  | noByte a b hst hd =>
    refine ⟨accounts_of_same_attempt rfl rfl (fun _ => rfl) rfl ?_ ?_ ?_ ?_ ?_ ?_ ?_, rfl⟩ <;>
      simp [hst, countRequests, isAvail, isRead, availAllowance, readAllowance]
    all_goals omega
  | accepted hst | noise hst | toParser hst | exhausted hst _ =>
    refine ⟨accounts_of_same_attempt rfl rfl (fun _ => rfl) rfl ?_ ?_ ?_ ?_ ?_ ?_ ?_, rfl⟩ <;>
      simp [hst, countRequests, availAllowance, readAllowance]

/-- A byte captured costs one poll and one read, as DCNT counts. -/
theorem accounts_capture {s : State} (a b : Answer) (t : Nat) (v : Byte) (hst : s.st = .draining) :
    Accounts s { s.after [.request .chAvail a, .request .chReadByte b, .delay t] with
        rxBuf := Memory.write s.rxBuf s.rxLen v, rxLen := s.rxLen + 1, dcnt := s.dcnt + 1 }
      [.request .chAvail a, .request .chReadByte b, .delay t] := by
  refine accounts_of_same_attempt rfl rfl (fun _ => rfl) rfl ?_ ?_ ?_ ?_ ?_ ?_ ?_ <;>
    simp [hst, countRequests, isAvail, isRead, availAllowance, readAllowance]
  all_goals omega

/-- All of an attempt's polls and reads are allowed once it is over, and none of the next one's yet. -/
theorem budgets_nextAttempt {s : State} (hpos : 1 ≤ s.att) :
    pollBudget s.nextAttempt = (s.att - 1) * (s.params.nPoll + s.params.nDrain) + (s.params.nPoll + s.params.nDrain) ∧
    readBudget s.nextAttempt = (s.att - 1) * (s.params.nDrain + 1) + (s.params.nDrain + 1) ∧
    ∀ n, n + sendsDue s.nextAttempt + s.att = s.nextAttempt.att + n := by
  obtain ⟨-, he⟩ | ⟨-, he⟩ := s.nextAttempt_cases <;> rw [he]
  · simp only [pollBudget, readBudget, availAllowance, readAllowance, sendsDue, State.enterSending_st,
      State.enterSending_att, State.enterSending_params, add_one_sub_one_mul hpos, if_true]
    exact ⟨by omega, by omega, fun n => by omega⟩
  · simp [pollBudget, readBudget, availAllowance, readAllowance, sendsDue, Nat.add_comm]

@[simp] theorem State.nextAttempt_ccnt (s : State) : s.nextAttempt.ccnt = s.ccnt := by
  obtain ⟨-, he⟩ | ⟨-, he⟩ := s.nextAttempt_cases <;> simp [he]

/-- The events that end an attempt account for the attempt that follows, and flush as often as CCNT rises. -/
theorem AttemptEnds.accounts {s : State} {es : List Event} {c : Nat} (h : Inv s) (hend : AttemptEnds s es c) :
    Accounts s ({ s with ccnt := c }.after es).nextAttempt es ∧ countRequests isFlush es + s.ccnt = c := by
  obtain ⟨hb, -⟩ := hend.ccnt_le h
  have hpos : 1 ≤ ({ s with ccnt := c }.after es).att := by simpa using h.busy.started hb
  obtain ⟨hpolls, hreads, hsends⟩ := budgets_nextAttempt hpos
  simp only [State.after_att, State.after_params] at hpolls hreads hsends
  cases hend with
  | shortWrite f a hst hf =>
    have hne := frame_ne_cancelBytes h hb hf
    refine ⟨⟨rfl, rfl, fun g hg => ?_, ?_, ?_, ?_⟩, by simp [countRequests, isFlush]⟩
    · obtain rfl : f = g := Option.some.inj (hf.symm.trans hg)
      simpa [sends, countRequests, isWriteOf, sendsDue, hst] using hsends 1
    · simp [cancels, countRequests, isWriteOf, hne]
    · rw [hpolls]
      simp [pollBudget, availAllowance, hst, countRequests, isAvail]
    · rw [hreads]
      simp [readBudget, readAllowance, hst, countRequests, isRead]
  | recovered a b c t u hst =>
    refine ⟨⟨rfl, rfl, fun g hg => ?_, ?_, ?_, ?_⟩, by simp [countRequests, isFlush, Nat.add_comm]⟩
    · have hne := frame_ne_cancelBytes h hb hg
      simpa [sends, countRequests, isWriteOf, sendsDue, hst, Ne.symm hne] using hsends 0
    · simp [cancels, countRequests, isWriteOf, Nat.add_comm]
    · rw [hpolls]
      simp [pollBudget, availAllowance, hst, countRequests, isAvail]
    · rw [hreads]
      simp only [readBudget, readAllowance, hst, countRequests, isRead, Bool.false_eq_true, if_true, if_false]
      omega

/-- The events that end a transaction account for its attempt as one that is over, and flush at most as often as CCNT
rises. -/
theorem TransactionEnds.accounts {s : State} {es : List Event} {c : Nat} (h : Inv s) (hend : TransactionEnds s es c) :
    Accounts s { s with ccnt := c, st := .exhausted } es ∧ countRequests isFlush es + s.ccnt ≤ c := by
  obtain ⟨hb, -⟩ := hend.ccnt_le h
  have hdcnt := h.counters.dcnt
  cases hend with
  | written f a hst hf =>
    have hne := frame_ne_cancelBytes h hb hf
    refine ⟨⟨rfl, rfl, fun g hg => ?_, ?_, ?_, ?_⟩, by simp [countRequests, isFlush]⟩
    · obtain rfl : f = g := Option.some.inj (hf.symm.trans hg)
      simp [sends, countRequests, isWriteOf, sendsDue, hst, Nat.add_comm]
    · simp [cancels, countRequests, isWriteOf, hne]
    · simp [countRequests, isAvail, pollBudget, availAllowance, hst]
    · simp [countRequests, isRead, readBudget, readAllowance, hst]
  | polled a hst =>
    obtain ⟨-, -, hp⟩ := h.phase.awaiting hst
    refine ⟨accounts_of_same_attempt rfl rfl (fun _ => rfl) rfl ?_ ?_ ?_ ?_ ?_ ?_ ?_, by simp [countRequests, isFlush]⟩ <;>
      simp [hst, countRequests, isAvail, isRead, availAllowance, readAllowance]
    omega
  | drainPolled a hst hd | drainRead a b hst hd =>
    refine ⟨accounts_of_same_attempt rfl rfl (fun _ => rfl) rfl ?_ ?_ ?_ ?_ ?_ ?_ ?_, by simp [countRequests, isFlush]⟩ <;>
      simp [hst, countRequests, isAvail, isRead, availAllowance, readAllowance]
    all_goals omega
  | cancelled a hst | discarded a b hst | flushed a b c t hst =>
    refine ⟨⟨rfl, rfl, fun g hg => ?_, ?_, ?_, ?_⟩, ?_⟩
    · have hne := frame_ne_cancelBytes h hb hg
      simp [sends, countRequests, isWriteOf, sendsDue, hst, Ne.symm hne]
    · simp [cancels, countRequests, isWriteOf, Nat.add_comm]
    · simp [pollBudget, availAllowance, hst, countRequests, isAvail]
    · simp only [readBudget, readAllowance, hst, countRequests, isRead, Bool.false_eq_true, if_true, if_false]
      omega
    · simp only [countRequests, isFlush, Bool.false_eq_true, if_true, if_false]
      omega
  | parsed hst | exhausted hst =>
    refine ⟨accounts_of_same_attempt rfl rfl (fun _ => rfl) rfl ?_ ?_ ?_ ?_ ?_ ?_ ?_, by simp [countRequests]⟩ <;>
      simp [hst, countRequests, availAllowance, readAllowance]

/-! The invariant of the trace. -/

/-- A transaction under way keeps the invariant of its trace when its events account for the change. -/
theorem traceInv_of_accounts {s t : State} {es : List Event} (h : TraceInv s) (hb : s.st ≠ .idle)
    (hframe : EngineFrame s t) (htx : t.frame = s.frame) (hlog : t.log = s.log ++ es) (hacc : Accounts s t es)
    (hflush : countRequests isFlush es + s.ccnt = t.ccnt) : TraceInv t := by
  have htrace : t.trace = s.trace ++ es := trace_append h.marked hframe.mark hlog
  have hreq : t.openRequest = s.openRequest := by rw [State.openRequest, State.openRequest, hframe.cfg]
  have hopens := hacc.opens
  have hcloses := hacc.closes
  have hcancels := hacc.cancelled
  have hpolls := hacc.polled
  have hreads := hacc.read
  have hpolled := h.polled hb
  have hread := h.read hb
  have hcancelled := h.cancelled hb
  have hflushed := h.flushed hb
  simp only [pollBudget, readBudget] at hpolls hreads
  constructor
  case marked =>
    rw [hframe.mark, hlog, List.length_append]
    exact Nat.le_add_right_of_le h.marked
  case opened =>
    intro _
    rw [htrace, List.head?_append, h.opened hb, hreq]
    rfl
  case oneOpen => exact fun _ => by rw [htrace, countRequests_append, h.oneOpen hb, hopens]
  case noClose => exact fun _ => by rw [htrace, countRequests_append, h.noClose hb, hcloses]
  case sent =>
    intro f _ hf
    have hold := h.sent f hb (htx ▸ hf)
    have hnew := hacc.sent f (htx ▸ hf)
    simp only [sendsDue] at hnew
    rw [htrace, sends_append]
    omega
  case cancelled =>
    intro _
    rw [htrace, hframe.params, cancels_append]
    omega
  case flushed =>
    intro _
    rw [htrace, countRequests_append]
    omega
  case polled =>
    intro _
    rw [htrace, countRequests_append]
    omega
  case read =>
    intro _
    rw [htrace, countRequests_append]
    omega

/-- In Idle the invariant of the trace asks only that the mark is within the log. -/
theorem traceInv_of_idle {s : State} (hi : s.st = .idle) (h : s.mark ≤ s.log.length) : TraceInv s := by
  constructor <;> simp [hi, h]

theorem EngineMove.frame_eq {k : Kind} {s t : State} (h : EngineMove k s t) (ht : t.st ≠ .idle) :
    t.frame = s.frame := by
  obtain ⟨hbuf, hlen⟩ := h.txBuf ht
  rw [State.frame, State.frame, hbuf, hlen]

@[simp] theorem State.nextAttempt_log (s : State) : s.nextAttempt.log = s.log := by
  obtain ⟨-, he⟩ | ⟨-, he⟩ := s.nextAttempt_cases <;> simp [he]

/-- Each move makes the events of its row, and the end of a transaction, where the channel is open, a ChClose after
them. -/
theorem State.finished_log (s : State) (r : ResultRegs) :
    (s.finished true r).log = s.log ++ [.request .chClose (if (s.drawAt 0).error then .error else .ok)] :=
  s.log_closeChannel

/-- Every move of the engine extends the log. -/
theorem EngineMove.log_prefix {k : Kind} {s t : State} (h : EngineMove k s t) : s.log <+: t.log := by
  cases h with
  | advance es x p h => exact ⟨es, by simp⟩
  | capture a b t v hst hd hroom => exact ⟨_, (State.after_log s _).symm⟩
  | attempt es c h => exact ⟨es, by simp⟩
  | finish es c w close r h hclose hr =>
    have hes : s.log <+: ({ s with ccnt := c, csw := w }.after es).log := ⟨es, by simp⟩
    cases close with
    | false => exact hes
    | true => exact hes.trans ⟨_, (State.finished_log _ r).symm⟩

theorem Advances.busy {k : Kind} {s : State} {es : List Event} {x : EngineState} {p : Nat} (h : Advances k s es x p) :
    s.st ≠ .idle := by
  cases h <;> simp [*]

theorem EngineMove.traceInv {k : Kind} {s t : State} (hinv : Inv s) (h : TraceInv s) (hmove : EngineMove k s t) :
    TraceInv t := by
  have hframe := hmove.engineFrame
  have hprefix := hmove.log_prefix.length_le
  by_cases ht : t.st = .idle
  · exact traceInv_of_idle ht (hframe.mark ▸ h.marked.trans hprefix)
  · have htx := hmove.frame_eq ht
    cases hmove with
    | advance es x p hadv =>
      obtain ⟨hacc, hflush⟩ := hadv.accounts hinv
      exact traceInv_of_accounts h hadv.busy hframe htx (by simp) hacc (by simp [hflush])
    | capture a b t v hst hd hroom =>
      exact traceInv_of_accounts h (by simp [hst]) hframe htx (by simp) (accounts_capture a b t v hst)
        (by simp [countRequests, isFlush])
    | attempt es c hend =>
      obtain ⟨hb, -⟩ := hend.ccnt_le hinv
      obtain ⟨hacc, hflush⟩ := hend.accounts hinv
      exact traceInv_of_accounts h hb hframe htx (by simp) hacc (by simpa using hflush)
    | finish es c w close r hend hclose hr => exact absurd rfl ht

theorem traceInv_engineStep {s t : State} (hinv : Inv s) (h : TraceInv s) (hstep : engineStep s = .next t) :
    TraceInv t := by
  obtain ⟨-, rfl⟩ | ⟨-, k, -, hmove⟩ := engineStep_move hstep
  · exact h
  · exact hmove.traceInv hinv h

/-! Acceptance. -/

/-- A ChOpen that is not answered `error` is answered `ok` (rule R44). -/
theorem State.log_request_chOpen_ok {s : State} (he : (s.drawAt 0).error = false) :
    (s.request s.openRequest).log = s.log ++ [.request s.openRequest .ok] := by
  simp [answerOf, State.openRequest, State.nextDraw_eq_drawAt, he]

/-- The trace of a transaction whose channel has just opened is its ChOpen (rules R45, R223). -/
theorem State.trace_opened {s : State} {f : Bytes} (he : ((s.readyToOpen f).drawAt 0).error = false) :
    ((s.readyToOpen f).request (s.readyToOpen f).openRequest).channelOpened.enterSending.trace =
      [.request s.openRequest .ok] := by
  have hlog := State.log_request_chOpen_ok he
  rw [State.trace, State.enterSending_log, State.channelOpened_log, hlog]
  exact List.drop_left

theorem traceInv_opened {s : State} {f : Bytes} (he : ((s.readyToOpen f).drawAt 0).error = false) :
    TraceInv ((s.readyToOpen f).request (s.readyToOpen f).openRequest).channelOpened.enterSending := by
  have htrace := State.trace_opened he
  constructor
  case marked =>
    rw [State.enterSending_log, State.channelOpened_log, State.log_request_chOpen_ok he, List.length_append]
    exact Nat.le_add_right _ _
  case opened => exact fun _ => by rw [htrace]; rfl
  all_goals
    intros
    rw [htrace]
    simp [sends, cancels, countRequests, isOpen, isClose, isWriteOf, isFlush, isAvail, isRead, State.openRequest]

/-- What an operation does to the log and the mark: nothing where it is rejected or no transaction; the trace of a
transaction begins at the end of the log (rule R45). -/
theorem exec_log {i : Instr} {s t : State} (h : exec i s = .next t) :
    (s.st ≠ .idle ∧ t = s.rejectCommand) ∨
      (s.st = .idle ∧ Kind.ofOpr i.opr = none ∧ t.st = .idle ∧ t.log = s.log ∧ t.mark = s.mark) ∨
      (s.st = .idle ∧ Kind.ofOpr i.opr ≠ none ∧ t.mark = s.log.length ∧ s.log <+: t.log ∧ TraceInv t) := by
  by_cases hi : s.st = .idle
  · obtain ⟨hk, m, v, he, -⟩ | ⟨k, hk, he⟩ := exec_idle_cases i hi
    · obtain rfl := Host.Outcome.next.inj (he.symm.trans h)
      cases v with
      | ok x => exact .inr (.inl ⟨hi, hk, hi, rfl, rfl⟩)
      | fail c => exact .inr (.inl ⟨hi, hk, rfl, rfl, rfl⟩)
    · refine .inr (.inr ⟨hi, by simp [hk], ?_⟩)
      have hidle : ∀ u : State, u.st = .idle → u.mark = s.log.length → s.log <+: u.log →
          u.mark = s.log.length ∧ s.log <+: u.log ∧ TraceInv u :=
        fun u hu hmark hlog => ⟨hmark, hlog, traceInv_of_idle hu (hmark ▸ hlog.length_le)⟩
      obtain ⟨c, -, rfl⟩ | ⟨-, ⟨c, -, rfl⟩ | ⟨f, u, -, hu, rfl⟩⟩ :=
        State.beginTransaction_eq_next.mp (he.symm.trans h)
      · exact hidle _ rfl rfl (List.prefix_refl _)
      · exact hidle _ rfl rfl (List.prefix_refl _)
      · obtain rfl : u = (s.acceptCommand (encode i)).readyToOpen f := (State.storeFrame_eq_some.mp hu).2
        obtain ⟨-, ho⟩ | ⟨hne, ho⟩ := ((s.acceptCommand (encode i)).readyToOpen f).openChannel_cases <;> rw [ho]
        · exact hidle _ (by simp) (by simp [State.readyToOpen]) ⟨_, (List.append_assoc _ _ _).symm⟩
        · exact ⟨rfl, ⟨_, rfl⟩, traceInv_opened (State.nextError_eq _ ▸ hne)⟩
  · exact .inl ⟨hi, (Host.Outcome.next.inj ((exec_busy i hi).symm.trans h)).symm⟩

/-- The log only grows, and the mark moves only to its end, whatever the host does. -/
theorem hostStep_log {a : HostAct} {s t : State} (h : hostStep a s = .next t) :
    s.log <+: t.log ∧ (t.mark = s.mark ∨ t.mark = s.log.length) := by
  obtain ⟨-, he⟩ | ⟨c, i, -, -, he, -⟩ | ⟨cfg, rfl⟩ := hostStep_eq_next h
  · obtain ⟨-, rfl⟩ | ⟨-, k, -, hmove⟩ := engineStep_move he
    · exact ⟨List.prefix_refl _, .inl rfl⟩
    · exact ⟨hmove.log_prefix, .inl hmove.engineFrame.mark⟩
  · obtain ⟨-, rfl⟩ | ⟨-, -, -, hlog, hmark⟩ | ⟨-, -, hmark, hlog, -⟩ := exec_log he
    · exact ⟨List.prefix_refl _, .inl rfl⟩
    · exact ⟨hlog ▸ List.prefix_refl _, .inl hmark⟩
    · exact ⟨hlog, .inr hmark⟩
  · obtain ⟨-, he⟩ | ⟨-, he⟩ := s.writeConfig_cases cfg <;> rw [he] <;> exact ⟨List.prefix_refl _, .inl rfl⟩

/-- The trace does not depend on the host's inputs or the acknowledgement. -/
theorem TraceInv.with_port {s : State} (h : TraceInv s) (inputs : List HostInput) (ack : PortAck) :
    TraceInv { s with hostIn := inputs, portAck := ack } :=
  ⟨h.marked, h.opened, h.oneOpen, h.noClose, h.sent, h.cancelled, h.flushed, h.polled, h.read⟩

theorem traceInv_hostStep {a : HostAct} {s t : State} (hinv : Inv s) (h : TraceInv s) (hstep : hostStep a s = .next t) :
    TraceInv t := by
  obtain ⟨-, he⟩ | ⟨c, i, -, -, he, -⟩ | ⟨cfg, rfl⟩ := hostStep_eq_next hstep
  · exact traceInv_engineStep hinv h he
  · obtain ⟨-, rfl⟩ | ⟨-, -, ht, hlog, hmark⟩ | ⟨-, -, -, -, ht⟩ := exec_log he
    · exact h.with_port s.hostIn .rejected
    · exact traceInv_of_idle ht (by rw [hlog, hmark]; exact h.marked)
    · exact ht
  · obtain ⟨hi, he⟩ | ⟨-, he⟩ := s.writeConfig_cases cfg <;> rw [he]
    · exact traceInv_of_idle hi h.marked
    · exact h

/-- A RESET within a step leaves a trace that begins within the log: the step began it there, if it did. -/
theorem traceInv_resetDuring {k : Nat} {s u : State} (h : TraceInv s) (hmark : u.mark = s.mark ∨ u.mark = s.log.length) :
    TraceInv (resetDuring k s u) := by
  have hlt : u.mark ≤ s.log.length := by
    obtain hmark | hmark := hmark <;> rw [hmark]
    exact h.marked
  refine traceInv_of_idle rfl ?_
  change u.mark ≤ (s.log ++ eventsBefore k s u).length
  rw [List.length_append]
  exact Nat.le_add_right_of_le hlt

/-- Settles O11: the engine by what its moves account for, a transaction by its ChOpen, and in Idle by the mark alone. -/
theorem traceInvKeptByEveryStep : Obligations.TraceInvKeptByEveryStep := by
  unfold Obligations.TraceInvKeptByEveryStep
  intro s t hinv h hstep
  obtain ⟨-, he⟩ | ⟨x, rest, -, hreset⟩ := step_eq_next hstep
  · exact traceInv_engineStep hinv h he
  · have hinv' : Inv { s with hostIn := rest } := hinv.of_inner_eq rfl
    have h' : TraceInv { s with hostIn := rest } := h.with_port rest s.portAck
    obtain ⟨-, he⟩ | ⟨k, u, -, hu, rfl⟩ | ⟨k, -, -, rfl⟩ := withReset_eq_next hreset
    · exact traceInv_hostStep hinv' h' he
    · exact traceInv_resetDuring h' (hostStep_log hu).2
    · exact traceInv_of_idle rfl h.marked

/-! The end of a transaction. -/

/-- What a transaction that ends in this step leaves: its trace and one ChClose, the block back in Idle, a result. -/
theorem traceBounds_finished {s t : State} {es : List Event} {c : Nat} {w : Bool} {r : ResultRegs} (hinv : Inv s)
    (h : TraceInv s) (hend : TransactionEnds s es c) (ht : t = ({ s with ccnt := c, csw := w }.after es).finished true r) :
    ∃ a, t.trace = s.trace ++ es ++ [.request .chClose a] ∧ countRequests isClose t.trace = 1 ∧
      ∀ f, s.frame = some f → TraceBounds s.params f t := by
  obtain ⟨hb, hc⟩ := hend.ccnt_le hinv
  obtain ⟨hacc, hflush⟩ := hend.accounts hinv
  have hpos := hinv.busy.started hb
  have hatt := hinv.counters.att
  have hlog : t.log = s.log ++ (es ++ [.request .chClose
      (if (({ s with ccnt := c, csw := w }.after es).drawAt 0).error then .error else .ok)]) := by
    rw [ht, State.finished_log, State.after_log, List.append_assoc]
  have hmark : t.mark = s.mark := by
    rw [ht]
    exact State.after_mark _ _
  have htrace := trace_append h.marked hmark hlog
  have htatt : t.att = s.att := by
    rw [ht]
    exact State.after_att _ _
  have htccnt : t.ccnt = c := by
    rw [ht]
    exact State.after_ccnt _ _
  rw [← List.append_assoc] at htrace
  refine ⟨_, htrace, ?_, fun f hf => ?_⟩
  · rw [htrace, countRequests_append, countRequests_append, h.noClose hb, hacc.closes]
    rfl
  · have hbudget : ∀ n : Nat, (s.att - 1) * n + n ≤ 5 * n := fun n => by
      rw [← Nat.succ_mul, Nat.succ_eq_add_one, Nat.sub_add_cancel hpos]
      exact Nat.mul_le_mul_right n hatt
    have hpolls : countRequests isAvail es + pollBudget s ≤
        (s.att - 1) * (s.params.nPoll + s.params.nDrain) + (s.params.nPoll + s.params.nDrain) := hacc.polled
    have hreads : countRequests isRead es + readBudget s ≤
        (s.att - 1) * (s.params.nDrain + 1) + (s.params.nDrain + 1) := hacc.read
    have hpolled : countRequests isAvail s.trace ≤ pollBudget s := h.polled hb
    have hread : countRequests isRead s.trace ≤ readBudget s := h.read hb
    have hpollMax := hbudget (s.params.nPoll + s.params.nDrain)
    have hreadMax := hbudget (s.params.nDrain + 1)
    have hsent : sends f es + 0 + s.att = s.att + sendsDue s := hacc.sent f hf
    have hold : sends f s.trace + sendsDue s = s.att := h.sent f hb hf
    have hcancels : cancels s.params es + s.ccnt = c := hacc.cancelled
    have hcancelled := h.cancelled hb
    have hflushed := h.flushed hb
    have hmax : c ≤ 5 := hc.trans hatt
    constructor
    case sent =>
      have hclose : ∀ a, sends f [.request .chClose a] = 0 := fun _ => rfl
      rw [htrace, htatt, sends_append, sends_append, hclose]
      omega
    case sentBound => exact htatt ▸ hatt
    case cancelled =>
      have hclose : ∀ a, cancels s.params [.request .chClose a] = 0 := fun _ => rfl
      rw [htrace, htccnt, cancels_append, cancels_append, hclose]
      omega
    case cancelledBound => exact htccnt ▸ hmax
    case polls =>
      have hclose : ∀ a, countRequests isAvail [.request .chClose a] = 0 := fun _ => rfl
      rw [htrace, countRequests_append, countRequests_append, hclose]
      omega
    case reads =>
      have hclose : ∀ a, countRequests isRead [.request .chClose a] = 0 := fun _ => rfl
      rw [htrace, countRequests_append, countRequests_append, hclose]
      omega
    case flushes =>
      have hclose : ∀ a, countRequests isFlush [.request .chClose a] = 0 := fun _ => rfl
      rw [htrace, countRequests_append, countRequests_append, hclose]
      omega
    case opens =>
      rw [htrace, countRequests_append, countRequests_append, h.oneOpen hb, hacc.opens]
      rfl
    case closes =>
      rw [htrace, countRequests_append, countRequests_append, h.noClose hb, hacc.closes]
      rfl
    case lastRequest => exact ⟨_, by rw [htrace, List.getLast?_concat]⟩

end Sys2Proof.Machine
end

section
/-! PROOFS. The end of every transaction (`44_transaction_engine.md` section 9): what an exit leaves, the rank that every
move lowers, and the run of the engine to Idle (rules R247, R248). -/

namespace Sys2Proof.Machine

/-! An exit. -/

/-- A result is delivered with the end of a transaction. -/
theorem Concludes.status_ne_none {k : Kind} {s : State} {r : ResultRegs} (h : Concludes k s r) : r.status ≠ .none := by
  obtain ⟨code, -, rfl⟩ | rfl | ⟨v, buf, -, -, rfl⟩ := h <;> simp [failRegs, okRegs]

theorem backToIdle_finished (s : State) (r : ResultRegs) : BackToIdle (s.finished true r) :=
  ⟨rfl, rfl, rfl, rfl, Memory.read_nil, Memory.read_nil⟩

/-- The only move to Idle is the end of the transaction, with its ChClose. -/
theorem exit_eq_finished {s t : State} (hinv : Inv s) (hb : s.st ≠ .idle) (hstep : engineStep s = .next t)
    (ht : t.st = .idle) : ∃ es c w r, TransactionEnds s es c ∧ r.status ≠ .none ∧
      t = ({ s with ccnt := c, csw := w }.after es).finished true r := by
  obtain ⟨hi, -⟩ | ⟨-, k, hk, hmove⟩ := engineStep_move hstep
  · exact absurd hi hb
  · cases hmove with
    | advance es x p hadv =>
      obtain ⟨-, hx, -⟩ := hadv.phase hinv (hadv.not_restart hinv hk)
      exact absurd ht hx
    | capture a b t v hst hd hroom =>
      rw [State.after_st] at ht
      exact absurd ht hb
    | attempt es c hend =>
      obtain ⟨-, he⟩ | ⟨-, he⟩ := ({ s with ccnt := c }.after es).nextAttempt_cases <;> rw [he] at ht <;> cases ht
    | finish es c w close r hend hclose hr =>
      obtain rfl := hclose (hinv.busy.opened hb)
      exact ⟨es, c, w, r, hend, hr.status_ne_none, rfl⟩

/-- Settles O56: the exit is the end of the transaction, whose trace closes with its one ChClose. -/
theorem everyExitClosesOnce : Obligations.EveryExitClosesOnce := by
  unfold Obligations.EveryExitClosesOnce
  intro s t hinv h hb hstep ht
  obtain ⟨es, c, w, r, hend, hr, rfl⟩ := exit_eq_finished hinv hb hstep ht
  obtain ⟨a, htrace, hcloses, -⟩ := traceBounds_finished (w := w) (r := r) hinv h hend rfl
  exact ⟨backToIdle_finished _ r, hr, hcloses, a, by rw [htrace, List.getLast?_concat]⟩

/-! The rank. -/

/-- An attempt less to come lowers the rank by the steps of an attempt. -/
theorem sub_mul_eq_add {a : Nat} (h : a < maxAttempts) (n : Nat) :
    (maxAttempts - a) * n = (maxAttempts - (a + 1)) * n + n := by
  have hsub : maxAttempts - a = maxAttempts - (a + 1) + 1 := by omega
  rw [hsub, Nat.add_mul, Nat.one_mul]

/-- Every move lowers the rank, or ends the transaction (rule R248). -/
theorem EngineMove.rank_lt {k : Kind} {s t : State} (h : EngineMove k s t) (ht : t.st ≠ .idle) :
    rank t < rank s := by
  cases h with
  | advance es x p hadv =>
    cases hadv with
    | polledAgain a t hst hp =>
      simp only [rank, hst, State.after_att, State.after_params]
      omega
    | written f a hst | polledLast a hst | available a hst | drainBound hst | nothingMore a hst | noByte a b hst
    | accepted hst | noise hst | toParser hst | exhausted hst =>
      simp only [rank, hst, State.after_att, State.after_params, State.after_dcnt]
      omega
  | capture a b t v hst hd hroom =>
    simp only [rank, hst, State.after_st, State.after_att, State.after_params]
    omega
  | attempt es c hend =>
    obtain ⟨hatt, he⟩ | ⟨hatt, he⟩ := ({ s with ccnt := c }.after es).nextAttempt_cases
    all_goals
      rw [he]
      rw [State.after_att] at hatt
    · have hless : (maxAttempts - s.att) * attemptSteps s.params =
          (maxAttempts - (s.att + 1)) * attemptSteps s.params + attemptSteps s.params := sub_mul_eq_add hatt _
      have hsteps : attemptSteps s.params = s.params.nPoll + s.params.nDrain + 5 := rfl
      cases hend with
      | shortWrite f a hst | recovered a b c t u hst =>
        simp only [rank, hst, State.enterSending_st, State.enterSending_att, State.enterSending_params, State.after_att,
          State.after_params]
        omega
    · cases hend with
      | shortWrite f a hst | recovered a b c t u hst =>
        simp only [rank, hst]
        omega
  | finish es c w close r hend hclose hr => exact absurd rfl ht

/-- The rank of a state of the invariant is within the bound of a transaction. -/
theorem rank_le_transactionBound {s : State} (h : Inv s) : rank s ≤ transactionBound s.params := by
  have hsteps : attemptSteps s.params = s.params.nPoll + s.params.nDrain + 5 := rfl
  have hbound : transactionBound s.params = 5 * attemptSteps s.params + 2 := rfl
  by_cases hb : s.st = .idle
  · simp [rank, hb]
  · have hrest : (maxAttempts - s.att) * attemptSteps s.params ≤ 4 * attemptSteps s.params :=
      Nat.mul_le_mul_right _ (Nat.sub_le_sub_left (h.busy.started hb) maxAttempts)
    unfold rank
    split <;> omega

/-! The run. -/

/-- Some run leads from `s` to `t`. -/
def ReachesIn (n : Nat) (s t : State) : Prop := Host.Core.run Sys2Proof.core n s = .next t

theorem reachesIn_zero (s : State) : ReachesIn 0 s s := rfl

theorem ReachesIn.cons {n : Nat} {s u t : State} (hstep : step s = .next u) (h : ReachesIn n u t) :
    ReachesIn (n + 1) s t := by
  have hcore : Sys2Proof.core.step s = .next u := hstep
  unfold ReachesIn
  simp only [Host.Core.run, hcore]
  exact h

/-- With no host input lined up a step is the engine's (rules R30, R222). -/
theorem step_of_no_input {s : State} (h : s.hostIn = []) : step s = engineStep s := by
  rw [step, machineStep, h]

theorem engineStep_ne_refused (s : State) (r : Refusal) : engineStep s ≠ .refused r := by
  unfold engineStep
  split
  · split
    · simp
    · next k _ =>
      rw [transactionStep]
      split
      next => simp
      next =>
        unfold sendStep
        repeat' split
        all_goals simp [State.channelError_eq]
      next =>
        unfold pollStep
        split <;> simp [State.channelError_eq]
      next =>
        unfold drainStep drainRead
        repeat' split
        all_goals simp [State.channelError_eq]
      next =>
        unfold classifyStep
        split <;> simp
      next => simp
      next =>
        unfold recoverStep recoverRead recoverFlush
        repeat' split
        all_goals simp [State.channelError_eq]
      next =>
        unfold parsedStep
        split <;> simp
      next =>
        unfold exhaustedStep
        split <;> simp
  · simp

/-- Under the invariant the engine always has a next state. -/
theorem exists_engineStep {s : State} (h : Inv s) : ∃ t, engineStep s = .next t := by
  cases hstep : engineStep s with
  | next t => exact ⟨t, rfl⟩
  | fault r => exact absurd hstep (engineStep_ne_fault h r)
  | refused r => exact absurd hstep (engineStep_ne_refused s r)

/-- What a transaction leaves when it ends: Idle, with the channel closed, a result and a trace within its bounds. -/
structure EndedWell (s t : State) : Prop where
  idle : t.st = .idle
  closed : t.chOpen = false
  result : s.st ≠ .idle → t.res.status ≠ .none
  bounds : s.st ≠ .idle → ∀ f, TraceInv s → s.frame = some f → TraceBounds s.params f t

theorem endedWell_of_idle {s : State} (h : Inv s) (hi : s.st = .idle) : EndedWell s s :=
  ⟨hi, h.idle.closed hi, fun hb => absurd hi hb, fun hb => absurd hi hb⟩

theorem endedWell_of_exit {s t : State} (h : Inv s) (hb : s.st ≠ .idle) (hstep : engineStep s = .next t)
    (ht : t.st = .idle) : EndedWell s t := by
  obtain ⟨es, c, w, r, hend, hr, rfl⟩ := exit_eq_finished h hb hstep ht
  refine ⟨rfl, rfl, fun _ => hr, fun _ f htrace hf => ?_⟩
  obtain ⟨a, -, -, hbounds⟩ := traceBounds_finished (w := w) (r := r) h htrace hend rfl
  exact hbounds f hf

/-- What is left of a transaction ends as the whole of it does. -/
theorem EndedWell.of_move {k : Kind} {s u t : State} (hinv : Inv s) (hmove : EngineMove k s u) (hu : u.st ≠ .idle)
    (h : EndedWell u t) : EndedWell s t where
  idle := h.idle
  closed := h.closed
  result := fun _ => h.result hu
  bounds := fun _ f htrace hf =>
    hmove.engineFrame.params ▸ h.bounds hu f (hmove.traceInv hinv htrace) ((hmove.frame_eq hu).trans hf)

theorem rank_pos {s : State} (h : s.st ≠ .idle) : 0 < rank s := by
  unfold rank
  split <;> simp_all

/-- The engine alone ends every transaction within its rank, by induction on the rank. -/
theorem exists_run_endedWell {s : State} (hinv : Inv s) (hin : s.hostIn = []) :
    ∃ n t, n ≤ rank s ∧ ReachesIn n s t ∧ EndedWell s t := by
  induction hm : rank s using Nat.strong_induction_on generalizing s with
  | _ m ih =>
    subst hm
    by_cases hb : s.st = .idle
    · exact ⟨0, s, Nat.zero_le _, reachesIn_zero s, endedWell_of_idle hinv hb⟩
    · obtain ⟨u, hu⟩ := exists_engineStep hinv
      have hstep : step s = .next u := (step_of_no_input hin).trans hu
      obtain ⟨hi, -⟩ | ⟨-, k, hk, hmove⟩ := engineStep_move hu
      · exact absurd hi hb
      · by_cases hui : u.st = .idle
        · exact ⟨1, u, rank_pos hb, (reachesIn_zero u).cons hstep, endedWell_of_exit hinv hb hu hui⟩
        · have hlt : rank u < rank s := hmove.rank_lt hui
          obtain ⟨n, t, hn, hrun, hend⟩ := ih (rank u) hlt (hmove.inv hinv hk) (hmove.engineFrame.hostIn.trans hin) rfl
          exact ⟨n + 1, t, Nat.succ_le_of_lt (Nat.lt_of_le_of_lt hn hlt), hrun.cons hstep, hend.of_move hinv hmove hui⟩

/-- Settles O13: every move lowers the rank, which begins within the bound, and the exit leaves what it must. -/
theorem everyTransactionEnds : Obligations.EveryTransactionEnds := by
  unfold Obligations.EveryTransactionEnds
  intro s hinv hin
  obtain ⟨n, t, hn, hrun, hend⟩ := exists_run_endedWell hinv hin
  exact ⟨rank_le_transactionBound hinv, n, t, hn, hrun, hend.idle, hend.closed,
    fun hb => ⟨hend.result hb, hend.bounds hb⟩⟩

end Sys2Proof.Machine
end
section
/-! PROOFS. The host's side of the block: the command port, the configuration registers, RESET, the result port. -/

namespace Sys2Proof.Machine

/-! One step, by the input it takes. -/

theorem step_of_input {s : State} {x : HostInput} {rest : List HostInput} (h : s.hostIn = x :: rest) :
    step s = withReset x.reset { s with hostIn := rest } (hostStep x.act { s with hostIn := rest }) := by
  rw [step, machineStep, h]
  rfl

theorem step_of_act {s : State} {a : HostAct} {rest : List HostInput}
    (h : s.hostIn = { act := a, reset := none } :: rest) : step s = hostStep a { s with hostIn := rest } :=
  step_of_input h

theorem hostStep_command_of_ok {c : Command} {i : Instr} {s : State} (h : decode s.params c = .ok i) :
    hostStep (.command c) s = requireConfigured s (exec i s) := by
  simp [hostStep, presentCommand, h]

theorem requireConfigured_of_configured {s : State} {r : Result} (h : s.configured = true) :
    requireConfigured s r = r := by
  cases r <;> simp [requireConfigured, h]

theorem requireConfigured_of_same_log {s : State} {r : Result} (h : ∀ t, r = .next t → t.log = s.log) :
    requireConfigured s r = r := by
  cases r with
  | next t => simp [requireConfigured, h t rfl]
  | fault e => rfl
  | refused e => rfl

theorem requireConfigured_eq_refused {s : State} {r : Result} {e : Refusal} (hr : ∀ e, r ≠ .refused e)
    (h : requireConfigured s r = .refused e) :
    e = .notConfigured ∧ s.configured = false ∧ ∃ t, r = .next t ∧ t.log ≠ s.log := by
  cases r with
  | next t =>
    by_cases hc : s.configured || t.log.length == s.log.length
    · simp [requireConfigured, hc] at h
    · obtain ⟨hconf, hlen⟩ := Bool.or_eq_false_iff.mp (Bool.eq_false_iff.mpr hc)
      simp only [requireConfigured, hc] at h
      exact ⟨(Host.Outcome.refused.inj h).symm, hconf, t, rfl, fun hl => by simp [hl] at hlen⟩
  | fault e => cases h
  | refused e => exact absurd rfl (hr e)

theorem requireConfigured_of_unconfigured {s t : State} (hconf : s.configured = false)
    (hlog : t.log.length ≠ s.log.length) : requireConfigured s (.next t) = .refused .notConfigured := by
  simp [requireConfigured, hconf, hlog]

/-! What each operation answers. -/

theorem exec_ne_refused (i : Instr) (s : State) (r : Refusal) : exec i s ≠ .refused r := by
  obtain ⟨t, he⟩ := exists_exec i s
  simp [he]

/-- The channel is requested only by a transaction in Idle. -/
theorem exec_log_eq {i : Instr} {s t : State} (h : exec i s = .next t) (hi : s.st = .idle → Kind.ofOpr i.opr = none) :
    t.log = s.log := by
  obtain ⟨-, rfl⟩ | ⟨-, -, -, hlog, -⟩ | ⟨hidle, hk, -⟩ := exec_log h
  · rfl
  · exact hlog
  · exact absurd (hi hidle) hk

/-- Settles O1, by the cases of rule R326's precondition: an operation that is no transaction leaves the trace alone. -/
theorem stepRunsTheDecodedCommand : Obligations.StepRunsTheDecodedCommand := by
  unfold Obligations.StepRunsTheDecodedCommand
  refine ⟨fun s c i rest hin hdec hconf => ?_, fun s hin => step_of_no_input hin, fun s rest hin => step_of_act hin,
    fun s hi => by simp [engineStep, (State.busy_false_iff s).mpr hi]⟩
  rw [step_of_act hin, hostStep_command_of_ok (s := { s with hostIn := rest }) hdec]
  obtain hconf | hk | hlog := hconf
  · exact requireConfigured_of_configured hconf
  · exact requireConfigured_of_same_log fun t he => exec_log_eq he fun _ => hk
  · exact requireConfigured_of_same_log hlog

/-! Refusals. -/

theorem exec_transaction {i : Instr} {s : State} {k : Kind} (hi : s.st = .idle) (hk : Kind.ofOpr i.opr = some k) :
    exec i s = (s.acceptCommand (encode i)).beginTransaction k := by
  obtain ⟨hnone, -⟩ | ⟨k', hk', he⟩ := exec_idle_cases i hi
  · simp [hk] at hnone
  · obtain rfl := Option.some.inj (hk.symm.trans hk')
    exact he

/-- A transaction that passes its checks requests the channel at once. -/
theorem exec_log_lt {i : Instr} {s : State} {k : Kind} {f : Bytes} (hi : s.st = .idle) (hk : Kind.ofOpr i.opr = some k)
    (haccept : acceptFailure s.params k i.operands = none) (hf : build s.params k i.operands = .ok f) :
    ∃ t, exec i s = .next t ∧ s.log.length < t.log.length := by
  refine ⟨_, (exec_transaction hi hk).trans
    (State.beginTransaction_eq_openChannel (s := s.acceptCommand (encode i)) haccept hf), ?_⟩
  obtain ⟨-, ho⟩ | ⟨-, ho⟩ := ((s.acceptCommand (encode i)).readyToOpen f).openChannel_cases <;> rw [ho] <;>
    simp [State.readyToOpen]

theorem writeChId_eq_refused {v : Nat} {s : State} {r : Refusal} (h : writeChId v s = .refused r) :
    2 ^ s.params.chidW ≤ v ∧ r = .chIdNotExpressible := by
  unfold writeChId at h
  split at h
  · cases h
  next hv => exact ⟨Nat.le_of_not_lt fun hlt => hv ((fitsBits_iff v _).mpr hlt), (Host.Outcome.refused.inj h).symm⟩

/-- What the command port refuses (rules R26, R326). -/
theorem presentCommand_eq_refused {c : Command} {s : State} {r : Refusal} (h : presentCommand c s = .refused r) :
    (∃ e, decode s.params c = .error e ∧ r = .commandNotExpressible e) ∨
      ∃ i, decode s.params c = .ok i ∧ Kind.ofOpr i.opr ≠ none ∧ s.st = .idle ∧ s.configured = false ∧
        r = .notConfigured := by
  unfold presentCommand at h
  split at h
  next e hdec => exact .inl ⟨e, hdec, (Host.Outcome.refused.inj h).symm⟩
  next i hdec =>
    obtain ⟨hr, hconf, t, he, hlog⟩ := requireConfigured_eq_refused (exec_ne_refused i s) h
    have hk : s.st = .idle ∧ Kind.ofOpr i.opr ≠ none := by
      by_contra hcon
      exact hlog (exec_log_eq he fun hidle => by_contra fun hk => hcon ⟨hidle, hk⟩)
    exact .inr ⟨i, hdec, hk.2, hk.1, hconf, hr⟩

/-- Settles O6: the engine and the operations refuse nothing, so that a refusal is the port's. -/
theorem onlyTheseInputsAreRefused : Obligations.OnlyTheseInputsAreRefused := by
  unfold Obligations.OnlyTheseInputsAreRefused
  refine ⟨exec_ne_refused, fun s c i k f rest hin hdec hconf hi hk haccept hf => ?_, fun s r h => ?_⟩
  · obtain ⟨t, he, hlt⟩ := exec_log_lt (s := { s with hostIn := rest }) hi hk haccept hf
    rw [step_of_act hin, hostStep_command_of_ok (s := { s with hostIn := rest }) hdec, he]
    exact requireConfigured_of_unconfigured (s := { s with hostIn := rest }) hconf hlt.ne'
  · cases hin : s.hostIn with
    | nil => exact absurd ((step_of_no_input hin).symm.trans h) (engineStep_ne_refused s r)
    | cons x rest =>
      obtain ⟨a, reset⟩ := x
      rw [step_of_input hin] at h
      cases reset with
      | some k =>
        revert h
        cases hostStep a { s with hostIn := rest } <;> exact nofun
      | none =>
        refine ⟨rest, ?_⟩
        cases a with
        | wait => exact absurd h (engineStep_ne_refused _ r)
        | command c =>
          obtain ⟨e, hdec, hr⟩ | ⟨i, hdec, hk, hi, hconf, hr⟩ := presentCommand_eq_refused h
          · exact .inl ⟨c, e, rfl, hdec, hr⟩
          · exact .inr (.inr ⟨c, i, rfl, hdec, hk, hi, hconf, hr⟩)
        | writeChId v =>
          obtain ⟨hv, hr⟩ := writeChId_eq_refused h
          exact .inr (.inl ⟨v, rfl, hv, hr⟩)
        | writeBaud v => cases h
        | writeTimeout v => cases h
        | writeDebug v => cases h

/-! RESET. -/

theorem atResetValues_resetDuring (k : Nat) (s t : State) : AtResetValues (resetDuring k s t) := by
  constructor <;> intros <;> rfl

theorem atResetValues_resetRegs (s : State) : AtResetValues s.resetRegs := by
  constructor <;> intros <;> rfl

/-- A step with a RESET always ends, whether what it cuts short does or not. -/
theorem withReset_some (k : Nat) (s : State) (r : Result) :
    (∃ u, r = .next u ∧ withReset (some k) s r = .next (resetDuring k s u)) ∨
      (∀ u, r ≠ .next u) ∧ withReset (some k) s r = .next s.resetRegs := by
  cases r with
  | next u => exact .inl ⟨u, rfl, rfl⟩
  | fault e => exact .inr ⟨by simp, rfl⟩
  | refused e => exact .inr ⟨by simp, rfl⟩

/-- Settles O8: the events before the RESET are the first of the step's, where the step is taken. -/
theorem resetAtAnyMoment : Obligations.ResetAtAnyMoment := by
  unfold Obligations.ResetAtAnyMoment
  intro s a k rest hin
  rw [step_of_input hin]
  obtain ⟨u, hu, hreset⟩ | ⟨hstop, hreset⟩ :=
    withReset_some k { s with hostIn := rest } (hostStep a { s with hostIn := rest })
  · obtain ⟨es, hes⟩ : s.log <+: u.log := (hostStep_log hu).1
    have hmade : eventsBefore k { s with hostIn := rest } u = es.take k := by
      simp [eventsBefore, ← hes]
    have hlog : (resetDuring k { s with hostIn := rest } u).log = s.log ++ es.take k := by
      rw [← hmade]
      rfl
    refine ⟨_, hreset, atResetValues_resetDuring _ _ _, rfl, rfl, ⟨_, hlog.symm⟩, ?_, fun v hv => ?_,
      fun h => absurd hu (h u)⟩
    · rw [hlog, List.drop_left, ← hmade]
      exact ⟨rfl, rfl⟩
    · obtain rfl := Host.Outcome.next.inj (hu.symm.trans hv)
      rw [hlog, ← hes]
      refine ⟨(List.prefix_append_right_inj _).mpr (List.take_prefix k es), ?_⟩
      simp only [List.length_append, List.length_take]
      omega
  · exact ⟨_, hreset, atResetValues_resetRegs _, rfl, rfl, List.prefix_refl _, by simp [Consumed, requestCount],
      fun v hv => absurd hv (hstop v), fun _ => rfl⟩

/-! Writes of the configuration registers. -/

theorem State.writeConfig_eq (s : State) (cfg : ConfigRegs) :
    s.writeConfig cfg = { s with cfg := if s.st = .idle then cfg else s.cfg } := by
  obtain ⟨hi, h⟩ | ⟨hi, h⟩ := s.writeConfig_cases cfg <;> rw [h] <;> simp [hi]

/-- Settles O15: a busy block rejects a command and ignores a configuration write. -/
theorem hostCannotDisturbTransaction : Obligations.HostCannotDisturbTransaction := by
  unfold Obligations.HostCannotDisturbTransaction
  intro s t a rest hb hwait hin hstep
  rw [step_of_act hin] at hstep
  obtain ⟨rfl, -⟩ | ⟨c, i, -, -, he, -⟩ | ⟨cfg, rfl⟩ := hostStep_eq_next hstep
  · exact absurd rfl hwait
  · obtain rfl := Host.Outcome.next.inj ((exec_busy i (s := { s with hostIn := rest }) hb).symm.trans he)
    rfl
  · rw [State.writeConfig_eq]
    simp [hb]

/-- Settles O16: the write of each register is `writeConfig` of what it becomes. -/
theorem configWrittenOnlyInIdle : Obligations.ConfigWrittenOnlyInIdle := by
  unfold Obligations.ConfigWrittenOnlyInIdle
  refine fun s rest => ⟨fun v hv hin => ?_, fun v hin => ?_, fun v hin => ?_, fun v hin => ?_⟩ <;>
    rw [step_of_act hin]
  · have hfits : fitsBits v s.params.chidW = true := (fitsBits_iff v _).mpr hv
    simp only [hostStep, writeChId, hfits, if_true, State.writeConfig_eq]
  all_goals simp only [hostStep, State.writeConfig_eq]

/-! At reset, and what the host reads. -/

theorem resetRegs_reset : State.reset.resetRegs = State.reset := rfl

/-- Settles O9. -/
theorem invariantsHoldAtReset : Obligations.InvariantsHoldAtReset :=
  ⟨resetRegs_reset ▸ inv_resetRegs State.reset, traceInv_of_idle rfl (Nat.le_refl _)⟩

theorem resStatusBits_eq_one_iff (x : ResStatus) : resStatusBits x = 1 ↔ x = .ok := by
  cases x <;> decide

theorem resStatusBits_eq_two_iff (x : ResStatus) : resStatusBits x = 2 ↔ x = .fail := by
  cases x <;> decide

theorem engineStateBits_eq_zero_iff (x : EngineState) : engineStateBits x = 0 ↔ x = .idle := by
  cases x <;> decide

theorem failCodeBits_eq_zero_iff (x : FailCode) : failCodeBits x = 0 ↔ x = .noFailure := by
  cases x <;> decide

theorem failKindBits_failKindOf_eq_zero_iff (x : FailCode) : failKindBits (failKindOf x) = 0 ↔ x = .noFailure := by
  cases x <;> decide

theorem State.complete_iff (s : State) :
    s.complete = true ↔ (s.res.status = .ok ∨ s.res.status = .fail) ∧ s.busy = false := by
  cases hs : s.res.status <;> simp [State.complete, hs]

/-- What the result registers hold, by their status (rules R28, R29, R282). -/
theorem ResultInv.cases {s : State} (h : ResultInv s) :
    (s.res.status = .ok ∧ s.res.failKind = .none ∧ s.res.failCode = .noFailure) ∨
      (s.res.status ≠ .ok ∧ s.res.tag = .void ∧ s.res.data = [] ∧ s.res.failKind = failKindOf s.res.failCode ∧
        (s.res.status = .fail ↔ s.res.failCode ≠ .noFailure)) := by
  cases hs : s.res.status with
  | none =>
    have hres := h.none hs
    exact .inr ⟨nofun, by simp [hres, ResultRegs.cleared, failKindOf]⟩
  | ok =>
    obtain ⟨hk, hc, -⟩ := h.ok hs
    exact .inl ⟨rfl, hk, hc⟩
  | fail =>
    obtain ⟨htag, hdata, hc, hk⟩ := h.fail hs
    exact .inr ⟨nofun, htag, hdata, hk, by simp [hc]⟩

theorem ResultInv.data_le {s : State} (h : ResultInv s) :
    s.res.data.length ≤ max (2 * s.params.abufCap) (max (11 + 2 * s.params.maxLen) s.params.nDrain) := by
  obtain ⟨hs, -⟩ | ⟨-, -, hdata, -⟩ := h.cases
  · exact (h.ok hs).2.2.fits
  · simp [hdata]

/-- Settles O60: the codes by cases, what stands with OK and with FAIL by the invariant of the result registers. -/
theorem resultPortShowsTheRegisters : Obligations.ResultPortShowsTheRegisters := by
  unfold Obligations.ResultPortShowsTheRegisters
  refine ⟨fun s => ⟨rfl, rfl, rfl, rfl, rfl, rfl, rfl, rfl, rfl, ?_, rfl, ?_⟩, rfl, rfl, rfl, rfl, rfl, fun s h => ?_⟩
  · exact (State.busy_iff s).trans (not_congr (engineStateBits_eq_zero_iff s.st)).symm
  · exact s.complete_iff.trans
      (and_congr_left' (or_congr (resStatusBits_eq_one_iff _).symm (resStatusBits_eq_two_iff _).symm))
  · refine ⟨fun hne => ?_, h.result.data_le, ?_, ?_⟩
    · have hok : s.res.status ≠ .ok := fun hs => hne ((resStatusBits_eq_one_iff _).mpr hs)
      obtain ⟨hs, -⟩ | ⟨-, htag, hdata, -⟩ := h.result.cases
      · exact absurd hs hok
      · simp [State.resultPort, htag, hdata, resTagBits]
    · refine (resStatusBits_eq_two_iff _).trans (Iff.trans ?_ (not_congr (failCodeBits_eq_zero_iff _)).symm)
      obtain ⟨hs, -, hc⟩ | ⟨-, -, -, -, hfail⟩ := h.result.cases
      · simp [hs, hc]
      · exact hfail
    · refine (resStatusBits_eq_two_iff _).trans ?_
      obtain ⟨hs, hk, -⟩ | ⟨-, -, -, hk, hfail⟩ := h.result.cases
      · simp [State.resultPort, hs, hk, failKindBits]
      · refine hfail.trans (not_congr ?_)
        simp only [State.resultPort, hk]
        exact (failKindBits_failKindOf_eq_zero_iff _).symm

end Sys2Proof.Machine
end
section
/-! PROOFS. The acceptance of a transaction: the frame held and the channel opened, or a failure before any request. -/

namespace Sys2Proof.Machine

/-! A transaction that starts. -/

/-- Where the channel opens, the transaction is in Sending with its frame held (rules R223 to R225). -/
theorem State.openChannel_of_ok {s : State} (he : (s.drawAt 0).error = false) :
    s.openChannel = (s.request s.openRequest).channelOpened.enterSending := by
  obtain ⟨herror, -⟩ | ⟨-, h⟩ := s.openChannel_cases
  · exact absurd (he.symm.trans (s.nextError_eq.symm.trans herror)) nofun
  · exact h

theorem started_opened {s : State} {c : Command} {f : Bytes} (he : (s.drawAt 0).error = false) :
    Started c s (((s.acceptCommand c).readyToOpen f).request
      ((s.acceptCommand c).readyToOpen f).openRequest).channelOpened.enterSending f := by
  constructor
  case frame => exact Memory.readBytes_writeBytes [] 0 f
  case txRest =>
    intro a ha
    exact Option.not_isSome_iff_eq_none.mp (mt (txCells_writeBytes f a).mp (Nat.not_lt.mpr ha))
  case rxBytes => exact Memory.read_nil
  case trace => exact State.trace_opened (s := s.acceptCommand c) he
  case log => exact State.log_request_chOpen_ok (s := (s.acceptCommand c).readyToOpen f) he
  case chScript => simp [State.readyToOpen]
  case chDraws => simp [State.readyToOpen]
  all_goals rfl

/-- An accepted transaction whose checks pass and whose frame can be built starts, once the channel opens. -/
theorem exec_started {i : Instr} {s : State} {k : Kind} {f : Bytes} (hi : s.st = .idle) (hk : Kind.ofOpr i.opr = some k)
    (haccept : acceptFailure s.params k i.operands = none) (hf : build s.params k i.operands = .ok f)
    (he : (s.drawAt 0).error = false) : ∃ t, exec i s = .next t ∧ Started (encode i) s t f := by
  refine ⟨_, ?_, started_opened he⟩
  rw [exec_transaction hi hk, State.beginTransaction_eq_openChannel (s := s.acceptCommand (encode i)) haccept hf,
    State.openChannel_of_ok (s := (s.acceptCommand (encode i)).readyToOpen f) he]

/-- Settles O40: neither of the two looks at its operands. -/
theorem pingAndRestartStart : Obligations.PingAndRestartStart := by
  unfold Obligations.PingAndRestartStart
  exact fun s o hi _ he =>
    ⟨exec_started (i := .ping o) hi rfl rfl rfl he, exec_started (i := .restart o) hi rfl rfl rfl he⟩

/-- Settles O41: the frame built of a READ is its request frame. -/
theorem readStarts : Obligations.ReadStarts := by
  unfold Obligations.ReadStarts
  intro s o hi _ hfields he
  obtain ⟨t, ht, hstarted⟩ := exec_started (i := .read o) hi rfl (fieldFailure_of_fieldsAccepted hfields)
    (build_read s.params o) he
  exact ⟨t, _, ht, hstarted, sumsTo85_checksum _⟩

/-- Settles O42: the frame built of a WRITE has the value in wire order. -/
theorem writeStarts : Obligations.WriteStarts := by
  unfold Obligations.WriteStarts
  intro s o hi _ hfields hwidth he
  obtain ⟨w, hw⟩ := exists_wireValue hwidth
  obtain ⟨t, ht, hstarted⟩ := exec_started (i := .write o) hi rfl (fieldFailure_of_fieldsAccepted hfields)
    (build_write_of_wireValue hw) he
  exact ⟨t, w, _, ht, hstarted, wireData_of_wireValue hw, sumsTo85_checksum _⟩

/-! A transaction refused. -/

theorem refusedFrame_startTransaction (s : State) (c : Command) (code : FailCode) :
    RefusedFrame c s ((s.acceptCommand c).startTransaction.raiseFailure false code) := by
  constructor
  case txBytes => exact Memory.read_nil
  case rxBytes => exact Memory.read_nil
  case trace => exact List.drop_length
  all_goals rfl

/-- A failure of the checks, or of the builder after them, refuses the transaction (rule R223, steps 3 and 4). -/
theorem exec_refusedFrame {i : Instr} {s : State} {k : Kind} {code : FailCode} (hi : s.st = .idle)
    (hk : Kind.ofOpr i.opr = some k)
    (h : acceptFailure s.params k i.operands = some code ∨
      acceptFailure s.params k i.operands = none ∧ build s.params k i.operands = .fail code) :
    ∃ t, exec i s = .next t ∧ t.fails (failKindOf code) code ∧ RefusedFrame (encode i) s t := by
  refine ⟨_, ?_, State.fails_raiseFailure _ false code, refusedFrame_startTransaction s _ code⟩
  rw [exec_transaction hi hk, State.beginTransaction_eq_next]
  obtain haccept | ⟨haccept, hf⟩ := h
  · exact .inl ⟨code, haccept, rfl⟩
  · exact .inr ⟨haccept, .inl ⟨code, hf, rfl⟩⟩

/-- Settles O43: the format is checked first, then the length, and the builder fails last. -/
theorem transactionRefusedAtAcceptance : Obligations.TransactionRefusedAtAcceptance := by
  unfold Obligations.TransactionRefusedAtAcceptance
  intro s o i hi hop
  obtain ⟨k, hk, haccept⟩ : ∃ k, Kind.ofOpr i.opr = some k ∧
      acceptFailure s.params k i.operands = fieldFailure s.params o := by
    obtain rfl | rfl := hop
    · exact ⟨.read, rfl, rfl⟩
    · exact ⟨.write, rfl, rfl⟩
  refine ⟨fun hfmt => ?_, fun hfmt hlen => ?_, fun hwrite hfields hint hwidth => ?_⟩
  · exact exec_refusedFrame hi hk (.inl (haccept.trans (fieldFailure_of_not_fmtNamed hfmt)))
  · exact exec_refusedFrame hi hk (.inl (haccept.trans (fieldFailure_of_long hfmt hlen)))
  · subst hwrite
    exact exec_refusedFrame (i := .write o) hi rfl
      (.inr ⟨fieldFailure_of_fieldsAccepted hfields, build_write_of_not_widthOk hint hwidth⟩)

end Sys2Proof.Machine
end
section
/-! PROOFS. Rows of the transition table from the answers they draw: a drained byte, the verdict on a capture, the
recovery sequence, a channel error. -/

namespace Sys2Proof.Machine

/-! Draining. -/

theorem State.log_request_chReadByte_byte {s : State} {b : Byte} (he : (s.drawAt 0).error = false)
    (hb : (s.drawAt 0).byte = some b) :
    (s.request .chReadByte).log = s.log ++ [.request .chReadByte (.byte b)] := by
  simp [answerOf, State.nextDraw_eq_drawAt, he, hb]

/-- The read answers a byte, and there is room for it (rule R235). -/
theorem drainRead_byte {s : State} {b : Byte} (he : (s.drawAt 0).error = false) (hb : (s.drawAt 0).byte = some b)
    (hroom : s.rxLen < rxCap s.params) :
    drainRead s = .next { (s.request .chReadByte).delay s.params.tPace with
      rxBuf := Memory.write s.rxBuf s.rxLen b, rxLen := s.rxLen + 1, dcnt := s.dcnt + 1 } := by
  have happend := State.appendRx_eq_some (s := s.request .chReadByte) (b := b).mpr ⟨hroom, rfl⟩
  simp only [drainRead, State.nextError_eq, State.nextDraw_eq_drawAt, he, hb, happend]
  rfl

/-- Settles O49: the iteration that reads a byte writes it at RXLEN, where there is room. -/
theorem drainingAppendsOneByte : Obligations.DrainingAppendsOneByte := by
  unfold Obligations.DrainingAppendsOneByte
  intro s k b hst hk hd hrx he hpos he1 hb
  have hread : ((s.request .chAvail).drawAt 0).error = false := by rwa [State.drawAt_request]
  have hbyte : ((s.request .chAvail).drawAt 0).byte = some b := by rwa [State.drawAt_request]
  have hstep := (drainStep_available hd (State.nextCount_of_no_error he rfl) hpos).trans
    (drainRead_byte hread hbyte (show s.rxLen < rxCap s.params by rw [rxCap]; omega))
  have hlog : ((s.request .chAvail).request .chReadByte).log =
      s.log ++ [.request .chAvail (.count (s.drawAt 0).count), .request .chReadByte (.byte b)] := by
    rw [State.log_request_chReadByte_byte hread hbyte, State.log_request_chAvail he rfl, List.append_assoc,
      List.singleton_append]
  refine ⟨_, (engineStep_draining hst hk).trans hstep, hst, rfl, Memory.read_write_same _ _ _,
    fun a ha => Memory.read_write_other _ _ _ _ ha, ?_, ⟨rfl, rfl, rfl, rfl⟩,
    (consumed_request (s.request .chAvail) .chReadByte).after_request, ⟨rfl, rfl, rfl, rfl, rfl, rfl⟩, .refl s, .refl s⟩
  exact (congrArg (· ++ [Event.delay s.params.tPace]) hlog).trans (List.append_assoc _ _ _)

/-! Classifying. -/

theorem containsSeq_iff (buf b : Bytes) : containsSeq buf b = true ↔ b <:+: buf := by
  induction buf with
  | nil => simp [containsSeq]
  | cons x xs ih => simp [containsSeq, ih, List.infix_cons_iff]

/-- A sequence of two bytes occurs where some two bytes in a row are these. -/
theorem pair_infix_iff (buf : Bytes) (x y : Byte) : [x, y] <:+: buf ↔ ∃ i, (buf.drop i).take 2 = [x, y] := by
  constructor
  · rintro ⟨a, b, rfl⟩
    exact ⟨a.length, by simp⟩
  · rintro ⟨i, h⟩
    rw [← h]
    exact (List.take_prefix 2 _).isInfix.trans (List.drop_suffix i buf).isInfix

/-- The noise predicate of the model is the one of the statements (rule R238). -/
theorem isNoise_iff (p : Params) (k : Kind) (len : Nat) (buf : Bytes) : isNoise p k len buf = true ↔ noisy p k len buf := by
  have hlayout : hasReplyLayout k = true ↔ k = .read ∨ k = .write := by cases k <;> simp [hasReplyLayout]
  have hlen : replyLen len = 11 + 2 * len := by rw [replyLen, Nat.add_comm]
  simp only [isNoise, noisy, Bool.or_eq_true, Bool.and_eq_true, decide_eq_true_eq, containsSeq_iff, pair_infix_iff,
    List.singleton_infix_iff, hlayout, hlen, or_assoc, tabByte]

theorem captureAccepted_iff (p : Params) (k : Kind) (len : Nat) (buf : Bytes) :
    captureAccepted p k len buf = true ↔ buf ≠ [] ∧ ¬ noisy p k len buf := by
  rw [captureAccepted, Bool.and_eq_true, decide_eq_true_eq, List.length_pos_iff, Bool.not_eq_true', ← isNoise_iff,
    Bool.not_eq_true]

theorem engineStep_classifying {s : State} {k : Kind} {buf : Bytes} (hst : s.st = .classifying)
    (hk : Kind.ofOpr s.cmd.opr = some k) (hbuf : s.capture = some buf) : engineStep s = .next
      { s with st := if captureAccepted s.params k s.cmd.operands.len buf then .accepted else .noisyRetry } := by
  simp [engineStep_busy (s := s) (by simp [hst]) hk, transactionStep, hst, classifyStep, hbuf]

/-- Settles O51: the verdict of Classifying is the noise predicate's. -/
theorem classifyingVerdict : Obligations.ClassifyingVerdict := by
  unfold Obligations.ClassifyingVerdict
  intro s k buf hst hk hbuf
  refine ⟨_, engineStep_classifying hst hk hbuf, fun h => ?_, fun h => ?_⟩
  · rw [if_pos ((captureAccepted_iff _ _ _ _).mpr h)]
  · rw [if_neg]
    rw [captureAccepted_iff]
    tauto

/-! Recovery. -/

theorem engineStep_noisyRetry {s : State} {k : Kind} (hst : s.st = .noisyRetry) (hk : Kind.ofOpr s.cmd.opr = some k) :
    engineStep s = recoverStep s := by
  simp [engineStep_busy (s := s) (by simp [hst]) hk, transactionStep, hst]

@[simp] theorem State.drawAt_cancelled (s : State) (i : Nat) : s.cancelled.drawAt i = s.drawAt (i + 1) :=
  State.drawAt_request { s with ccnt := s.ccnt + 1 } (.chWrite (cancelBytes s.params)) i

@[simp] theorem State.drawAt_discarded (s : State) (i : Nat) : s.discarded.drawAt i = s.drawAt (i + 1) :=
  State.drawAt_request s .chReadByte i

theorem answerOf_chWrite {f : Bytes} {d : Draw} (he : d.error = false) : answerOf (.chWrite f) d = .count d.count := by
  simp [answerOf, he]

theorem answerOf_chAvail {d : Draw} (he : d.error = false) : answerOf .chAvail d = .count d.count := by
  simp [answerOf, he]

theorem answerOf_chReadByte {d : Draw} (he : d.error = false) :
    answerOf .chReadByte d = (match d.byte with | some b => .byte b | none => .nothing) := by
  cases hb : d.byte <;> simp [answerOf, he, hb]

theorem answerOf_chFlushIn {d : Draw} (he : d.error = false) : answerOf .chFlushIn d = .ok := by
  simp [answerOf, he]

theorem answerOf_error {r : Request} {d : Draw} (he : d.error = true) : answerOf r d = .error := if_pos he

/-- The cancel write is the first event of the step, and CCNT rises with it (rule R33, assumption 12). -/
theorem State.cancelled_eq_after (s : State) : s.cancelled = ({ s with ccnt := s.ccnt + 1 } : State).after
    [.request (.chWrite (cancelBytes s.params)) (answerOf (.chWrite (cancelBytes s.params)) (s.drawAt 0))] := by
  rw [← s.nextDraw_eq_drawAt]
  rfl

theorem State.discarded_eq_after (s : State) : s.discarded =
    s.after [.request .chReadByte (answerOf .chReadByte (s.drawAt 0)), .delay s.params.tPause1] := by
  rw [← s.nextDraw_eq_drawAt]
  rfl

theorem State.flushed_eq_after (s : State) : s.flushed =
    s.after [.request .chFlushIn (answerOf .chFlushIn (s.drawAt 0)), .delay s.params.tPause2] := by
  rw [← s.nextDraw_eq_drawAt]
  rfl

theorem consumed_after (s : State) (es : List Event) : Consumed (requestCount es) s (s.after es) := by
  rw [State.after_eq]
  exact ⟨rfl, rfl⟩

/-- The draw of a request is the one after those of the events made before it. -/
theorem Consumed.drawAt {s t : State} {n : Nat} (h : Consumed n s t) (i : Nat) : t.drawAt i = s.drawAt (n + i) := by
  obtain ⟨hscript, hdraws⟩ := h
  rw [State.drawAt, State.drawAt, hscript, hdraws, List.getElem?_drop, Nat.add_assoc]

theorem Consumed.trans {s t u : State} {n m : Nat} (h : Consumed n s t) (g : Consumed m t u) : Consumed (n + m) s u := by
  obtain ⟨hscript, hdraws⟩ := h
  obtain ⟨gscript, gdraws⟩ := g
  exact ⟨by rw [gscript, hscript, List.drop_drop], by rw [gdraws, hdraws, Nat.add_assoc]⟩

/-! The three requests of the sequence, each with its `error` (rules R240, R301). -/

theorem recoverStep_error {s : State} (he : (s.drawAt 0).error = true) : recoverStep s =
    (({ s with ccnt := s.ccnt + 1 } : State).request (.chWrite (cancelBytes s.params))).channelError .chWrite := by
  simp [recoverStep, State.nextError_eq, he]

theorem recoverStep_cancelled {s : State} (he : (s.drawAt 0).error = false) : recoverStep s = recoverRead s.cancelled := by
  simp [recoverStep, State.nextError_eq, he, State.cancelled]

theorem recoverRead_error {s : State} (he : (s.drawAt 0).error = true) :
    recoverRead s = (s.request .chReadByte).channelError .chRead := by
  simp [recoverRead, State.nextError_eq, he]

theorem recoverRead_discarded {s : State} (he : (s.drawAt 0).error = false) : recoverRead s = recoverFlush s.discarded := by
  simp [recoverRead, State.nextError_eq, he, State.discarded]

theorem recoverFlush_error {s : State} (he : (s.drawAt 0).error = true) :
    recoverFlush s = (s.request .chFlushIn).channelError .chFlush := by
  simp [recoverFlush, State.nextError_eq, he]

theorem recoverFlush_flushed {s : State} (he : (s.drawAt 0).error = false) :
    recoverFlush s = .next s.flushed.nextAttempt := by
  simp [recoverFlush, State.nextError_eq, he, State.flushed]

/-- Where no request of the sequence is answered `error`, the next attempt follows it (rules R240, R242). -/
theorem recoverStep_whole {s : State} (h0 : (s.drawAt 0).error = false) (h1 : (s.drawAt 1).error = false)
    (h2 : (s.drawAt 2).error = false) : recoverStep s = .next s.cancelled.discarded.flushed.nextAttempt := by
  rw [recoverStep_cancelled h0, recoverRead_discarded (by rwa [State.drawAt_cancelled]), recoverFlush_flushed]
  rwa [State.drawAt_discarded, State.drawAt_cancelled]

/-- The next attempt after these events of a step, with this CCNT. -/
theorem State.nextAttempt_after_spec (s : State) (c : Nat) (es : List Event) {t : State}
    (ht : t = (({ s with ccnt := c } : State).after es).nextAttempt) :
    t.log = s.log ++ es ∧ Consumed (requestCount es) s t ∧ EngineFrame s t ∧ SameTx s t ∧ SameResult s t ∧
      (s.att < 5 → t.st = .sending ∧ CountersAre t (s.att + 1) c 0 0 ∧ t.rxLen = 0 ∧
        ∀ a, Memory.read t.rxBuf a = none) ∧
      (5 ≤ s.att → t.st = .exhausted ∧ CountersAre t s.att c s.pcnt s.dcnt ∧ SameRx s t) := by
  obtain ⟨hframe, htx, hres, hlog, hused, hagain, hend⟩ := (({ s with ccnt := c } : State).after es).nextAttempt_spec
  rw [← ht] at hframe htx hres hlog hused hagain hend
  have hmade := (consumed_after { s with ccnt := c } es).trans hused
  have hregs : EngineFrame s (({ s with ccnt := c } : State).after es) := by constructor <;> simp
  simp only [SameTx, SameRx, SameResult, State.after_txLen, State.after_txBuf, State.after_rxLen, State.after_rxBuf,
    State.after_res, State.after_csw, State.after_chOpen, State.after_att, State.after_ccnt, State.after_pcnt,
    State.after_dcnt, State.after_log] at htx hres hlog hagain hend
  exact ⟨hlog, hmade, hregs.trans hframe, htx, hres, hagain, hend⟩

/-- Settles O52: the five events are those of the three states of the sequence; what follows is the next attempt. -/
theorem recoverySequence : Obligations.RecoverySequence := by
  unfold Obligations.RecoverySequence
  intro s k hst hk h0 h1 h2
  have hflushed : s.cancelled.discarded.flushed = ({ s with ccnt := s.ccnt + 1 } : State).after
      [.request (.chWrite (cancelBytes s.params)) (.count (s.drawAt 0).count),
        .request .chReadByte (answerOf .chReadByte (s.drawAt 1)), .delay s.params.tPause1,
        .request .chFlushIn .ok, .delay s.params.tPause2] := by
    rw [State.flushed_eq_after, State.drawAt_discarded, State.drawAt_cancelled, answerOf_chFlushIn h2,
      State.discarded_eq_after, State.drawAt_cancelled, State.cancelled_eq_after, answerOf_chWrite h0]
    rfl
  have hstep := (engineStep_noisyRetry hst hk).trans (recoverStep_whole h0 h1 h2)
  rw [hflushed, answerOf_chReadByte h1] at hstep
  exact ⟨_, hstep, s.nextAttempt_after_spec _ _ rfl⟩

/-! A channel error. -/

/-- CCNT in the rest of a step: it has risen in the step NoisyRetry takes (rule R33, assumption 12). -/
def State.stepCcnt (s : State) : Nat := s.ccnt + if s.st = .noisyRetry then 1 else 0

/-- The state of a step in which these events have been made. -/
def State.amid (s : State) (made : List Event) : State := ({ s with ccnt := s.stepCcnt } : State).after made

theorem State.amid_nil {s : State} (hst : s.st ≠ .noisyRetry) : s.amid [] = s := by
  simp [State.amid, State.after, State.stepCcnt, hst]

theorem State.amid_noisyRetry {s : State} (hst : s.st = .noisyRetry) (made : List Event) :
    s.amid made = ({ s with ccnt := s.ccnt + 1 } : State).after made := by
  simp [State.amid, State.stepCcnt, hst]

theorem consumed_amid (s : State) (made : List Event) : Consumed (requestCount made) s (s.amid made) :=
  consumed_after { s with ccnt := s.stepCcnt } made

/-- A request answered `error` after the events `made` of the step ends the transaction (rules R300, R301). -/
theorem channelError_ends {s : State} {made : List Event} {code : FailCode} {r : Request} (hopen : s.chOpen = true)
    (hkind : failKindOf code = .transportUnreachable) (he : (s.drawAt (requestCount made)).error = true)
    (hstep : engineStep s = ((s.amid made).request r).channelError code) :
    ∃ t, engineStep s = .next t ∧ t.fails .transportUnreachable code ∧ BackToIdle t ∧ t.csw = s.csw ∧
      t.log = s.log ++ made ++ [.request r .error,
        .request .chClose (if (s.drawAt (requestCount made + 1)).error then .error else .ok)] ∧
      Consumed (requestCount made + 2) s t ∧ t.att = s.att ∧ t.ccnt = s.stepCcnt ∧ t.pcnt = s.pcnt ∧
      t.dcnt = s.dcnt ∧ EngineFrame s t := by
  have hused := consumed_amid s made
  have hchOpen : ((s.amid made).request r).chOpen = true := by simpa [State.amid] using hopen
  have hends := endsWithClose_raiseFailure ((s.amid made).request r) code
  rw [← State.raiseFailure_true_eq] at hends
  rw [State.channelError_eq, hchOpen] at hstep
  have hlog : ((s.amid made).request r).log = s.log ++ made ++ [.request r .error] := by
    rw [State.request_log, State.nextDraw_eq_drawAt, hused.drawAt, Nat.add_zero, answerOf_error he]
    simp [State.amid]
  have hframe : EngineFrame s (s.amid made) := by constructor <;> simp [State.amid]
  obtain ⟨hatt, hccnt, hpcnt, hdcnt⟩ := hends.counters
  refine ⟨_, hstep, hkind ▸ State.fails_raiseFailure _ true code, hends.idle, ?_, ?_, hused.trans hends.used.after_request,
    ?_, ?_, ?_, ?_, hframe.trans ((engineFrame_request _ r).trans hends.frame)⟩
  · rw [hends.csw]
    simp [State.amid]
  · rw [hends.log, hlog, State.drawAt_request, hused.drawAt, List.append_assoc]
    rfl
  · rw [hatt]
    simp [State.amid]
  · rw [hccnt]
    simp [State.amid]
  · rw [hpcnt]
    simp [State.amid]
  · rw [hdcnt]
    simp [State.amid]

theorem State.nextCount_of_error {s : State} (he : (s.drawAt 0).error = true) : s.nextCount = none := by
  simp [State.nextCount_eq, he]

theorem sendStep_error {s : State} {k : Kind} {f : Bytes} (hf : s.frame = some f) (he : (s.drawAt 0).error = true) :
    sendStep k s = (s.request (.chWrite f)).channelError .chWrite := by
  simp [sendStep, hf, State.nextCount_of_error he]

theorem pollStep_error {s : State} (he : (s.drawAt 0).error = true) :
    pollStep s = (s.request .chAvail).channelError .chAvail := by
  simp [pollStep, State.nextCount_of_error he]

theorem drainStep_error {s : State} (hd : s.dcnt < s.params.nDrain) (he : (s.drawAt 0).error = true) :
    drainStep s = (s.request .chAvail).channelError .chAvail := by
  simp [drainStep, Nat.not_le.mpr hd, State.nextCount_of_error he]

theorem drainRead_error {s : State} (he : (s.drawAt 0).error = true) :
    drainRead s = (s.request .chReadByte).channelError .chRead := by
  simp [drainRead, State.nextError_eq, he]

/-- Settles O55: each row makes its events, then the request answered `error`. -/
theorem channelErrorEndsTransaction : Obligations.ChannelErrorEndsTransaction := by
  unfold Obligations.ChannelErrorEndsTransaction
  intro s k code r made hk hopen hrow
  obtain ⟨hst, rfl, ⟨f, hf, rfl⟩, rfl, he⟩ | ⟨hst, rfl, rfl, rfl, he⟩ | ⟨hst, hd, rfl, rfl, rfl, he⟩ |
    ⟨hst, hd, rfl, rfl, rfl, he, hpos, he1⟩ | ⟨hst, rfl, rfl, rfl, he⟩ | ⟨hst, rfl, rfl, rfl, he, he1⟩ |
    ⟨hst, rfl, rfl, rfl, he, he1, he2⟩ := hrow
  · refine channelError_ends hopen rfl he ?_
    rw [engineStep_sending hst hk, sendStep_error hf he, State.amid_nil (by simp [hst])]
  · refine channelError_ends hopen rfl he ?_
    rw [engineStep_awaitingData hst hk, pollStep_error he, State.amid_nil (by simp [hst])]
  · refine channelError_ends hopen rfl he ?_
    rw [engineStep_draining hst hk, drainStep_error hd he, State.amid_nil (by simp [hst])]
  · have hpolled : s.request .chAvail = s.amid [.request .chAvail (.count (s.drawAt 0).count)] := by
      have hquiet : s.stepCcnt = s.ccnt := by simp [State.stepCcnt, hst]
      rw [State.amid, hquiet, ← answerOf_chAvail he, ← s.nextDraw_eq_drawAt]
      rfl
    refine channelError_ends hopen rfl he1 ?_
    rw [engineStep_draining hst hk, drainStep_available hd (State.nextCount_of_no_error he rfl) hpos,
      drainRead_error (by rwa [State.drawAt_request]), hpolled]
  · refine channelError_ends hopen rfl he ?_
    rw [engineStep_noisyRetry hst hk, recoverStep_error he, State.amid_noisyRetry hst]
    rfl
  · refine channelError_ends hopen rfl he1 ?_
    rw [engineStep_noisyRetry hst hk, recoverStep_cancelled he, recoverRead_error (by rwa [State.drawAt_cancelled]),
      State.cancelled_eq_after, answerOf_chWrite he, State.amid_noisyRetry hst]
    rfl
  · have hends := channelError_ends (s := s) (code := .chFlush) (r := .chFlushIn) (made := [
        .request (.chWrite (cancelBytes s.params)) (.count (s.drawAt 0).count),
        .request .chReadByte (answerOf .chReadByte (s.drawAt 1)), .delay s.params.tPause1]) hopen rfl he2 (by
      rw [engineStep_noisyRetry hst hk, recoverStep_cancelled he,
        recoverRead_discarded (by rwa [State.drawAt_cancelled]),
        recoverFlush_error (by rwa [State.drawAt_discarded, State.drawAt_cancelled]), State.discarded_eq_after,
        State.drawAt_cancelled, State.cancelled_eq_after, answerOf_chWrite he, State.amid_noisyRetry hst]
      rfl)
    rw [answerOf_chReadByte he1] at hends
    exact hends

end Sys2Proof.Machine
end
section
/-! PROOFS. Whole transactions of a READ whose host waits, with the channel's answers lined up: each row of the table
leads from one stage of the transaction to the next, and a run is a chain of stages. -/

namespace Sys2Proof.Machine

section Stages

/-! Buffers that read the same. -/

theorem Memory.readBytes_congr {m m' : Memory} (h : ∀ a, Memory.read m' a = Memory.read m a) (a n : Nat) :
    Memory.readBytes m' a n = Memory.readBytes m a n := by
  induction n generalizing a with
  | zero => rfl
  | succ n ih => simp only [Memory.readBytes, h, ih]

theorem SameTx.frame_eq {s t : State} (h : SameTx s t) : t.frame = s.frame := by
  obtain ⟨hlen, hread⟩ := h
  rw [State.frame, State.frame, hlen, Memory.readBytes_congr hread]

theorem SameRx.capture_eq {s t : State} (h : SameRx s t) : t.capture = s.capture := by
  obtain ⟨hlen, hread⟩ := h
  rw [State.capture, State.capture, hlen, Memory.readBytes_congr hread]

/-- A byte written at RXLEN, with RXLEN one more, is appended to the capture (rule R235). -/
theorem State.capture_append {s t : State} {buf : Bytes} {b : Byte} (hbuf : s.capture = some buf)
    (hlen : t.rxLen = s.rxLen + 1) (hlast : Memory.read t.rxBuf s.rxLen = some b)
    (hkept : ∀ a, a ≠ s.rxLen → Memory.read t.rxBuf a = Memory.read s.rxBuf a) : t.capture = some (buf ++ [b]) := by
  have hwrite : ∀ a, Memory.read t.rxBuf a = Memory.read (Memory.write s.rxBuf s.rxLen b) a := by
    intro a
    by_cases ha : a = s.rxLen
    · rw [ha, hlast, Memory.read_write_same]
    · rw [hkept a ha, Memory.read_write_other _ _ _ _ ha]
  rw [State.capture, hlen, Memory.readBytes_congr hwrite]
  exact Memory.readBytes_write_end b hbuf

theorem length_frame {s : State} {f : Bytes} (h : s.frame = some f) : f.length = s.txLen := by
  obtain ⟨hlen, -⟩ := Memory.readBytes_eq_some.mp h
  exact hlen

theorem State.drawAt_of_chScript {s : State} {i : Nat} {d : Draw} (h : s.chScript[i]? = some d) : s.drawAt i = d := by
  rw [State.drawAt, h]

/-! Stages. -/

/-- Where a transaction stands: the engine's state, three counters, the capture and the answers still lined up. -/
structure Stage where
  st : EngineState
  att : Nat
  ccnt : Nat
  pcnt : Nat
  capture : Bytes
  script : List Draw

/-- A READ under way at this stage in a block of these parameters, with this frame and a host that waits. -/
structure ReadAt (p : Params) (o : Operands) (f : Bytes) (g : Stage) (s : State) : Prop where
  inv : Inv s
  traced : TraceInv s
  waits : s.hostIn = []
  cmd : s.cmd = { opr := 11, operands := o }
  params : s.params = p
  frame : s.frame = some f
  st : s.st = g.st
  att : s.att = g.att
  ccnt : s.ccnt = g.ccnt
  pcnt : s.pcnt = g.pcnt
  capture : s.capture = some g.capture
  script : s.chScript = g.script

/-- From every state at the one stage a run leads to a state at the other. -/
def Leads (p : Params) (o : Operands) (f : Bytes) (g g' : Stage) : Prop :=
  ∀ s, ReadAt p o f g s → ∃ n t, ReachesIn n s t ∧ ReadAt p o f g' t

variable {p : Params} {o : Operands} {f : Bytes} {g g' g'' : Stage} {s t : State}

theorem ReachesIn.trans {u : State} {m n : Nat} (h : ReachesIn m s u) (h' : ReachesIn n u t) :
    ∃ k, ReachesIn k s t := by
  induction m generalizing s with
  | zero =>
    obtain rfl := Host.Outcome.next.inj h
    exact ⟨n, h'⟩
  | succ m ih =>
    simp only [ReachesIn, Host.Core.run] at h
    split at h
    next v hv =>
      obtain ⟨k, hk⟩ := ih h
      exact ⟨k + 1, hk.cons hv⟩
    all_goals cases h

theorem Leads.refl (g : Stage) : Leads p o f g g := fun s h => ⟨0, s, reachesIn_zero s, h⟩

theorem Leads.trans (h : Leads p o f g g') (h' : Leads p o f g' g'') : Leads p o f g g'' := by
  intro s hs
  obtain ⟨m, u, hrun, hu⟩ := h s hs
  obtain ⟨n, t, hrun', ht⟩ := h' u hu
  obtain ⟨k, hk⟩ := hrun.trans hrun'
  exact ⟨k, t, hk, ht⟩

namespace ReadAt

theorem kind (h : ReadAt p o f g s) : Kind.ofOpr s.cmd.opr = some .read := by
  rw [h.cmd]
  rfl

theorem operands (h : ReadAt p o f g s) : s.cmd.operands = o := by rw [h.cmd]

theorem step_eq (h : ReadAt p o f g s) : step s = engineStep s := step_of_no_input h.waits

theorem drawAt (h : ReadAt p o f g s) {i : Nat} {d : Draw} (hd : g.script[i]? = some d) : s.drawAt i = d :=
  State.drawAt_of_chScript (h.script ▸ hd)

theorem rxLen (h : ReadAt p o f g s) : s.rxLen = g.capture.length := (length_capture h.capture).symm

/-- An engine step that leaves the command and the frame leads to the stage it makes of the counters, the capture and
the answers. -/
theorem next {n : Nat} (h : ReadAt p o f g s) (hstep : engineStep s = .next t) (hframe : EngineFrame s t)
    (htx : SameTx s t) (hused : Consumed n s t) (hst : t.st = g'.st) (hatt : t.att = g'.att) (hccnt : t.ccnt = g'.ccnt)
    (hpcnt : t.pcnt = g'.pcnt) (hcap : t.capture = some g'.capture) (hscript : g.script.drop n = g'.script) :
    ∃ n t, ReachesIn n s t ∧ ReadAt p o f g' t :=
  have hnext : step s = .next t := h.step_eq.trans hstep
  ⟨1, t, (reachesIn_zero t).cons hnext,
    { inv := invKeptByEveryStep s t h.inv hnext
      traced := traceInvKeptByEveryStep s t h.inv h.traced hnext
      waits := hframe.hostIn.trans h.waits
      cmd := hframe.cmd.trans h.cmd
      params := hframe.params.trans h.params
      frame := htx.frame_eq.trans h.frame
      st := hst
      att := hatt
      ccnt := hccnt
      pcnt := hpcnt
      capture := hcap
      script := by rw [← hscript, ← h.script, hused.1] }⟩

/-- An engine step that changes nothing but the engine's state. -/
theorem enter {x : EngineState} (h : ReadAt p o f g s) (hstep : engineStep s = .next { s with st := x }) :
    ∃ n t, ReachesIn n s t ∧ ReadAt p o f { g with st := x } t :=
  h.next (n := 0) hstep (engineFrame_phase s x s.pcnt) (.refl s) ⟨rfl, rfl⟩ rfl h.att h.ccnt h.pcnt h.capture rfl

end ReadAt

/-! The rows of the table, from stage to stage (rule R221). -/

variable {a c q : Nat} {buf : Bytes} {rest : List Draw}

theorem leads_sent : Leads p o f ⟨.sending, a, c, q, buf, answerCount f.length :: rest⟩
    ⟨.awaitingData, a, c, q, buf, rest⟩ := by
  intro s h
  have hdraw : s.drawAt 0 = answerCount f.length := h.drawAt rfl
  obtain ⟨t, hstep, hst, -, hused, ⟨hatt, hccnt, hpcnt, -⟩, hframe, htx, hrx, -⟩ :=
    sendingWritesTheWholeFrame s .read f h.st h.kind (by simp) h.frame (by rw [hdraw]; rfl)
      (by rw [hdraw]; exact length_frame h.frame)
  exact h.next hstep hframe htx hused hst (hatt.trans h.att) (hccnt.trans h.ccnt) (hpcnt.trans h.pcnt)
    (hrx.capture_eq.trans h.capture) rfl

theorem leads_available {n : Nat} (hn : 0 < n) :
    Leads p o f ⟨.awaitingData, a, c, q, buf, answerCount n :: rest⟩ ⟨.draining, a, c, q, buf, rest⟩ := by
  intro s h
  have hdraw : s.drawAt 0 = answerCount n := h.drawAt rfl
  obtain ⟨t, hstep, hused, hframe, htx, hrx, -, hsome, -⟩ :=
    awaitingDataPolls s .read n h.st h.kind (by rw [hdraw]; rfl) (by rw [hdraw]; rfl)
  obtain ⟨hst, -, hatt, hccnt, hpcnt, -⟩ := hsome hn
  exact h.next hstep hframe htx hused hst (hatt.trans h.att) (hccnt.trans h.ccnt) (hpcnt.trans h.pcnt)
    (hrx.capture_eq.trans h.capture) rfl

/-- A poll with no answer and polls left (rule R231). -/
theorem leads_poll_again (hq : q + 1 < p.nPoll) : Leads p o f ⟨.awaitingData, a, c, q, buf, answerCount 0 :: rest⟩
    ⟨.awaitingData, a, c, q + 1, buf, rest⟩ := by
  intro s h
  have hdraw : s.drawAt 0 = answerCount 0 := h.drawAt rfl
  obtain ⟨t, hstep, hused, hframe, htx, hrx, -, -, hagain, -⟩ :=
    awaitingDataPolls s .read 0 h.st h.kind (by rw [hdraw]; rfl) (by rw [hdraw]; rfl)
  obtain ⟨hst, -, hatt, hccnt, hpcnt, -⟩ := hagain rfl (by rw [h.pcnt, h.params]; exact hq)
  exact h.next hstep hframe htx hused hst (hatt.trans h.att) (hccnt.trans h.ccnt) (by rw [hpcnt, h.pcnt])
    (hrx.capture_eq.trans h.capture) rfl

/-- The last poll with no answer (rule R232). -/
theorem leads_poll_last (hq : p.nPoll ≤ q + 1) : Leads p o f ⟨.awaitingData, a, c, q, buf, answerCount 0 :: rest⟩
    ⟨.classifying, a, c, q + 1, buf, rest⟩ := by
  intro s h
  have hdraw : s.drawAt 0 = answerCount 0 := h.drawAt rfl
  obtain ⟨t, hstep, hused, hframe, htx, hrx, -, -, -, hlast⟩ :=
    awaitingDataPolls s .read 0 h.st h.kind (by rw [hdraw]; rfl) (by rw [hdraw]; rfl)
  obtain ⟨hst, -, ⟨hatt, hccnt, hpcnt, -⟩, -⟩ := hlast rfl (by rw [h.pcnt, h.params]; exact hq)
  exact h.next hstep hframe htx hused hst (hatt.trans h.att) (hccnt.trans h.ccnt) (by rw [hpcnt, h.pcnt])
    (hrx.capture_eq.trans h.capture) rfl

/-- No poll is answered: Classifying after N_POLL of them, by induction on the polls left (rule R232). -/
theorem leads_polled_out {m : Nat} (hm : q + (m + 1) = p.nPoll) :
    Leads p o f ⟨.awaitingData, a, c, q, buf, List.replicate (m + 1) (answerCount 0) ++ rest⟩
      ⟨.classifying, a, c, p.nPoll, buf, rest⟩ := by
  induction m generalizing q with
  | zero => exact hm ▸ leads_poll_last (le_of_eq hm.symm)
  | succ m ih =>
    have hmore : q + 1 < p.nPoll := by omega
    exact (leads_poll_again hmore).trans (ih (by omega))

/-- One byte drained (rule R235). -/
theorem leads_drain_byte {b : Byte} (hroom : buf.length < p.nDrain) :
    Leads p o f ⟨.draining, a, c, q, buf, replyDraws [b] ++ rest⟩ ⟨.draining, a, c, q, buf ++ [b], rest⟩ := by
  intro s h
  have hpoll : s.drawAt 0 = { error := false, count := 1, byte := none } := h.drawAt rfl
  have hread : s.drawAt 1 = { error := false, count := 0, byte := some b } := h.drawAt rfl
  have hrx : s.rxLen = buf.length := h.rxLen
  have hd : s.rxLen = s.dcnt := h.inv.phase.captured (.inl h.st)
  obtain ⟨t, hstep, hst, hlen, hlast, hkept, -, ⟨hatt, hccnt, hpcnt, -⟩, hused, hframe, htx, -⟩ :=
    drainingAppendsOneByte s .read b h.st h.kind (by rw [← hd, hrx, h.params]; exact hroom)
      (by rw [hrx, h.params]; exact hroom) (by rw [hpoll]) (by rw [hpoll]; exact Nat.one_pos) (by rw [hread])
      (by rw [hread])
  exact h.next hstep hframe htx hused hst (hatt.trans h.att) (hccnt.trans h.ccnt) (hpcnt.trans h.pcnt)
    (State.capture_append h.capture hlen hlast hkept) rfl

/-- The bytes drained, by induction on them (rules R235, R236). -/
theorem leads_drained {bytes : Bytes} (hroom : buf.length + bytes.length ≤ p.nDrain) :
    Leads p o f ⟨.draining, a, c, q, buf, replyDraws bytes ++ rest⟩ ⟨.draining, a, c, q, buf ++ bytes, rest⟩ := by
  induction bytes generalizing buf with
  | nil =>
    rw [List.append_nil]
    exact .refl _
  | cons b bytes ih =>
    rw [List.length_cons] at hroom
    have hbyte : Leads p o f ⟨.draining, a, c, q, buf, replyDraws [b] ++ (replyDraws bytes ++ rest)⟩
        ⟨.draining, a, c, q, buf ++ [b], replyDraws bytes ++ rest⟩ := leads_drain_byte (by omega)
    have hothers := ih (buf := buf ++ [b]) (by rw [List.length_append, List.length_singleton]; omega)
    rw [List.append_assoc, List.singleton_append] at hothers
    exact hbyte.trans hothers

/-- Nothing more is available (rule R237). -/
theorem leads_drain_end (hroom : buf.length < p.nDrain) :
    Leads p o f ⟨.draining, a, c, q, buf, answerCount 0 :: rest⟩ ⟨.classifying, a, c, q, buf, rest⟩ := by
  intro s h
  have hdraw : s.drawAt 0 = answerCount 0 := h.drawAt rfl
  have hrx : s.rxLen = buf.length := h.rxLen
  have hd : s.rxLen = s.dcnt := h.inv.phase.captured (.inl h.st)
  have hlt : s.dcnt < s.params.nDrain := by rw [← hd, hrx, h.params]; exact hroom
  obtain ⟨t, hstep, hst, ⟨hatt, hccnt, hpcnt, -⟩, hframe, htx, hsame, -, -, hnothing, -⟩ :=
    drainingEnds s .read h.st h.kind (.inr (.inl ⟨hlt, by rw [hdraw]; rfl, by rw [hdraw]; rfl⟩))
  obtain ⟨-, hused⟩ := hnothing hlt (by rw [hdraw]; rfl)
  exact h.next hstep hframe htx hused hst (hatt.trans h.att) (hccnt.trans h.ccnt) (hpcnt.trans h.pcnt)
    (hsame.capture_eq.trans h.capture) rfl

/-- A capture that is neither empty nor noise goes to the parser (rules R239, R244). -/
theorem leads_accepted {script : List Draw} (hne : buf ≠ []) (hquiet : ¬ noisy p .read o.len buf) :
    Leads p o f ⟨.classifying, a, c, q, buf, script⟩ ⟨.parsed, a, c, q, buf, script⟩ := by
  have hverdict : Leads p o f ⟨.classifying, a, c, q, buf, script⟩ ⟨.accepted, a, c, q, buf, script⟩ := by
    intro s h
    obtain ⟨t, hstep, haccept, -⟩ := classifyingVerdict s .read buf h.st h.kind h.capture
    rw [haccept (by rw [h.params, h.operands]; exact ⟨hne, hquiet⟩)] at hstep
    exact h.enter hstep
  exact hverdict.trans fun s h => h.enter (engineStep_accepted h.st h.kind)

/-- An empty capture, or noise, goes to recovery (rule R239). -/
theorem leads_noise {script : List Draw} (hnoise : buf = [] ∨ noisy p .read o.len buf) :
    Leads p o f ⟨.classifying, a, c, q, buf, script⟩ ⟨.noisyRetry, a, c, q, buf, script⟩ := by
  intro s h
  obtain ⟨t, hstep, -, hreject⟩ := classifyingVerdict s .read buf h.st h.kind h.capture
  rw [hreject (by rw [h.params, h.operands]; exact hnoise)] at hstep
  exact h.enter hstep

/-- What the channel answers to a recovery sequence in which nothing arrives (rule R240). -/
def recoveryDraws : List Draw := [answerCount 2, answerCount 0, answerCount 0]

/-- The recovery sequence before the fifth attempt (rule R242). -/
theorem leads_next_attempt (ha : a < 5) : Leads p o f ⟨.noisyRetry, a, c, q, buf, recoveryDraws ++ rest⟩
    ⟨.sending, a + 1, c + 1, 0, [], rest⟩ := by
  intro s h
  have h0 : s.drawAt 0 = answerCount 2 := h.drawAt rfl
  have h1 : s.drawAt 1 = answerCount 0 := h.drawAt rfl
  have h2 : s.drawAt 2 = answerCount 0 := h.drawAt rfl
  obtain ⟨t, hstep, -, hused, hframe, htx, -, hagain, -⟩ :=
    recoverySequence s .read h.st h.kind (by rw [h0]; rfl) (by rw [h1]; rfl) (by rw [h2]; rfl)
  obtain ⟨hst, ⟨hatt, hccnt, hpcnt, -⟩, hrx, -⟩ := hagain (h.att ▸ ha)
  exact h.next hstep hframe htx hused hst (by rw [hatt, h.att]) (by rw [hccnt, h.ccnt]) hpcnt
    (by rw [State.capture, hrx]; rfl) rfl

/-- The recovery sequence of the fifth attempt, and Exhausted (rules R242, R245). -/
theorem leads_exhausted : Leads p o f ⟨.noisyRetry, 5, c, q, buf, recoveryDraws ++ rest⟩
    ⟨.parsed, 5, c + 1, q, buf, rest⟩ := by
  have hrecover : Leads p o f ⟨.noisyRetry, 5, c, q, buf, recoveryDraws ++ rest⟩
      ⟨.exhausted, 5, c + 1, q, buf, rest⟩ := by
    intro s h
    have h0 : s.drawAt 0 = answerCount 2 := h.drawAt rfl
    have h1 : s.drawAt 1 = answerCount 0 := h.drawAt rfl
    have h2 : s.drawAt 2 = answerCount 0 := h.drawAt rfl
    obtain ⟨t, hstep, -, hused, hframe, htx, -, -, hend⟩ :=
      recoverySequence s .read h.st h.kind (by rw [h0]; rfl) (by rw [h1]; rfl) (by rw [h2]; rfl)
    obtain ⟨hst, ⟨hatt, hccnt, hpcnt, -⟩, hrx⟩ := hend (le_of_eq h.att.symm)
    exact h.next hstep hframe htx hused hst (hatt.trans h.att) (by rw [hccnt, h.ccnt]) (hpcnt.trans h.pcnt)
      (hrx.capture_eq.trans h.capture) rfl
  refine hrecover.trans fun s h => ?_
  obtain ⟨-, hparse, -⟩ := acceptedAndExhaustedLeave s .read h.kind
  exact h.enter (hparse h.st (by simp))

/-- Five attempts that all end in recovery: `attempt` is what the channel answers in each up to its recovery. By
induction on the attempts left (rule R242). -/
theorem leads_all_attempts {attempt : List Draw} {m : Nat} (ham : a + m = 5)
    (hattempt : ∀ a c rest, Leads p o f ⟨.sending, a, c, 0, [], attempt ++ rest⟩ ⟨.noisyRetry, a, c, q, buf, rest⟩) :
    Leads p o f ⟨.sending, a, c, 0, [], (List.replicate (m + 1) (attempt ++ recoveryDraws)).flatten ++ rest⟩
      ⟨.parsed, 5, c + (m + 1), q, buf, rest⟩ := by
  induction m generalizing a c with
  | zero =>
    obtain rfl : a = 5 := ham
    have hscript : (List.replicate 1 (attempt ++ recoveryDraws)).flatten ++ rest = attempt ++ (recoveryDraws ++ rest) := by
      simp
    rw [hscript]
    exact (hattempt 5 c _).trans leads_exhausted
  | succ m ih =>
    have hscript : (List.replicate (m + 1 + 1) (attempt ++ recoveryDraws)).flatten ++ rest =
        attempt ++ (recoveryDraws ++ ((List.replicate (m + 1) (attempt ++ recoveryDraws)).flatten ++ rest)) := by
      simp [List.replicate_succ]
    have hcount : c + (m + 1 + 1) = c + 1 + (m + 1) := by omega
    rw [hscript, hcount]
    exact ((hattempt a c _).trans (leads_next_attempt (by omega))).trans (ih (by omega))

/-! The two ends of a run. -/

/-- A READ presented in Idle to a configured block is in Sending after one step, with its frame held. -/
theorem exists_readAt_sending {script : List Draw} (hinv : Inv s) (hi : s.st = .idle) (hconf : s.configured = true)
    (hin : s.hostIn = [{ act := .command { opr := 11, operands := o }, reset := none }])
    (hwf : o.wellFormed s.params = true) (hfields : fieldsAccepted s.params o)
    (hscript : s.chScript = answerCount 0 :: script) :
    ∃ q t, ReachesIn 1 s t ∧ ReadAt s.params o (readFrame o.reg q) ⟨.sending, 1, 0, 0, [], script⟩ t := by
  have hdraw : s.drawAt 0 = answerCount 0 := State.drawAt_of_chScript (by rw [hscript]; rfl)
  obtain ⟨t, q, hexec, hstarted, -⟩ := readStarts { s with hostIn := [] } o hi hconf hfields
    (show (s.drawAt 0).error = false by rw [hdraw]; rfl)
  have hdecode : decode s.params { opr := 11, operands := o } = .ok (.read o) :=
    (decodeExactlyInvertsEncode _ _ _).mpr ⟨hwf, rfl⟩
  obtain ⟨hruns, -⟩ := stepRunsTheDecodedCommand
  have hstep : step s = .next t := (hruns s _ _ [] hin hdecode (.inl hconf)).trans hexec
  have htraced : TraceInv t := by
    obtain ⟨hb, -⟩ | ⟨-, hk, -⟩ | ⟨-, -, -, -, htraced⟩ := exec_log hexec
    · exact absurd hi hb
    · cases hk
    · exact htraced
  exact ⟨q, t, (reachesIn_zero t).cons hstep,
    { inv := invKeptByEveryStep s t hinv hstep
      traced := htraced
      waits := hstarted.hostIn
      cmd := hstarted.latched
      params := hstarted.params
      frame := hstarted.frame
      st := hstarted.st
      att := hstarted.att
      ccnt := hstarted.ccnt
      pcnt := hstarted.pcnt
      capture := by rw [State.capture, hstarted.rxLen]; rfl
      script := by rw [hstarted.chScript, hscript]; rfl }⟩

/-- What a READ leaves that ends at this stage: the parse of its capture, where an OK result needs that the next answer,
which is the one to its ChClose, is no error (rules R246, R303). -/
structure ReadEnds (p : Params) (o : Operands) (f : Bytes) (g : Stage) (t : State) : Prop where
  idle : t.st = .idle
  closed : t.chOpen = false
  att : t.att = g.att
  ccnt : t.ccnt = g.ccnt
  csw : t.csw = (parse p .read g.capture o).csw
  sent : sends f t.trace = g.att
  cancelled : cancels p t.trace = g.ccnt
  fails : ∀ c, (parse p .read g.capture o).out = .fail c → t.fails (failKindOf c) c
  delivers : ∀ v, (parse p .read g.capture o).out = .ok v → (∃ d rest, g.script = d :: rest ∧ d.error = false) →
    t.delivers v.tag v.data

/-- Parsed ends the READ with the parse of its capture (rules R246, R247). -/
theorem ReadAt.ends (h : ReadAt p o f g s) (hst : g.st = .parsed) : ∃ t, ReachesIn 1 s t ∧ ReadEnds p o f g t := by
  have hparsed : s.st = .parsed := h.st.trans hst
  obtain ⟨t, hstep, ⟨hidle, -, -, hclosed, -⟩, hcsw, -, -, ⟨hatt, hccnt, -⟩, -, hfails, -, hdelivers⟩ :=
    parsedClosesAndDelivers s .read g.capture _ hparsed h.kind h.capture rfl
  have hbusy : s.st ≠ .idle := by simp [hparsed]
  have hbounds : TraceBounds s.params f t := (endedWell_of_exit h.inv hbusy hstep hidle).bounds hbusy f h.traced h.frame
  rw [h.params, h.operands] at hcsw hfails hdelivers
  rw [h.params] at hbounds
  refine ⟨t, (reachesIn_zero t).cons (h.step_eq.trans hstep), hidle, hclosed, hatt.trans h.att, hccnt.trans h.ccnt,
    ?_, ?_, ?_, hfails, fun v hv hclose => ?_⟩
  · rw [hcsw, h.inv.busy.noWarning hbusy, Bool.false_or]
  · rw [hbounds.sent, hatt, h.att]
  · rw [hbounds.cancelled, hccnt, h.ccnt]
  · obtain ⟨d, rest, hscript, hd⟩ := hclose
    have hdraw : s.drawAt 0 = d := h.drawAt (by rw [hscript]; rfl)
    exact hdelivers v hv (by rw [hdraw]; exact hd)

/-- A READ runs through its stages, from the command presented to its result. -/
theorem exists_run_readEnds {script : List Draw} (hinv : Inv s) (hi : s.st = .idle) (hconf : s.configured = true)
    (hin : s.hostIn = [{ act := .command { opr := 11, operands := o }, reset := none }])
    (hwf : o.wellFormed s.params = true) (hfields : fieldsAccepted s.params o)
    (hscript : s.chScript = answerCount 0 :: script) (hst : g.st = .parsed)
    (hleads : ∀ q, Leads s.params o (readFrame o.reg q) ⟨.sending, 1, 0, 0, [], script⟩ g) :
    ∃ n t q, ReachesIn n s t ∧ ReadEnds s.params o (readFrame o.reg q) g t := by
  obtain ⟨q, u, hstart, hu⟩ := exists_readAt_sending hinv hi hconf hin hwf hfields hscript
  obtain ⟨m, v, hrun, hv⟩ := hleads q u hu
  obtain ⟨t, hlast, ht⟩ := hv.ends hst
  obtain ⟨k, hk⟩ := hrun.trans hlast
  obtain ⟨n, hn⟩ := hstart.trans hk
  exact ⟨n, t, q, hn, ht⟩

end Stages

/-! The three runs. -/

/-- A right reply parses to the data it carries (rules R196 to R202, R207). -/
theorem parse_read_dataFrame {p : Params} {o : Operands} {d : Bytes} {c : Byte} (hfields : fieldsAccepted p o)
    (hd : d.length = o.len) (hwidth : fmtInt o.fmt → widthOk p o.len) (hsum : sumsTo85 (dataPayload 0x07 o.reg d) c) :
    ∃ v, parse p .read (dataFrame 0x37 o.reg d c) o = { csw := false, out := .ok v } ∧
      deliveredBy o.fmt o.len d v.tag v.data := by
  have hbuf : dataFrame 0x37 o.reg d c = dataFrame 0x37 o.reg d c ++ [] := (List.append_nil _).symm
  obtain ⟨-, htail⟩ := parseTail_dataFrame (p := p) (cmd := 0x07) hd hbuf
  obtain ⟨v, hdel, hright, -⟩ := replyResult_cases (cmd := 0x07) hfields d c
  exact ⟨v, ((parseReply_dataFrame hd hbuf).trans (htail hwidth)).trans (hright hsum), hdel⟩

theorem length_dataFrame (cmdChar : Byte) (reg : BitVec 16) (d : Bytes) (c : Byte) :
    (dataFrame cmdChar reg d c).length = 11 + 2 * d.length := by
  simp only [dataFrame, List.length_append, length_hexenc, List.length_cons, List.length_nil]
  omega

/-- Settles O57: sent, available, drained, accepted, parsed. -/
theorem immediateReplyIsDelivered : Obligations.ImmediateReplyIsDelivered := by
  unfold Obligations.ImmediateReplyIsDelivered
  intro s o d c hinv hi hconf hin hwf hfields hd hwidth hsum hquiet hscript
  have hlen : (dataFrame 0x37 o.reg d c).length = 11 + 2 * o.len := hd ▸ length_dataFrame ..
  have hroom : (dataFrame 0x37 o.reg d c).length < s.params.nDrain := by
    have hmax := hfields.2
    rw [hlen, Params.nDrain]
    omega
  have hleads : ∀ q, Leads s.params o (readFrame o.reg q)
      ⟨.sending, 1, 0, 0, [], answerCount 11 :: answerCount (11 + 2 * o.len) ::
        (replyDraws (dataFrame 0x37 o.reg d c) ++ [answerCount 0, answerCount 0])⟩
      ⟨.parsed, 1, 0, 0, dataFrame 0x37 o.reg d c, [answerCount 0]⟩ := fun q =>
    (((leads_sent.trans (leads_available (by omega))).trans
      (leads_drained (buf := []) (by rw [List.length_nil, Nat.zero_add]; exact hroom.le))).trans
        (leads_drain_end hroom)).trans (leads_accepted nofun hquiet)
  obtain ⟨n, t, q, hrun, hends⟩ := exists_run_readEnds hinv hi hconf hin hwf hfields hscript rfl hleads
  obtain ⟨v, hparse, hdel⟩ := parse_read_dataFrame hfields hd hwidth hsum
  exact ⟨n, t, v.tag, v.data, hrun, hends.idle, hends.delivers v (by rw [hparse]) ⟨_, _, rfl, rfl⟩, hdel, hends.att,
    hends.ccnt, by rw [hends.csw, hparse], hends.closed, q, hends.sent, hends.cancelled⟩

/-- An empty capture is no reply (rule R187). -/
theorem parse_read_nil (p : Params) (o : Operands) : (parse p .read [] o).out = .fail .tooShort := by
  have hfault : firstReplyFault 0x37 o [] = some .tooShort := if_pos (Nat.lt_add_right _ (by decide))
  have hparse : parse p .read [] o = parseFail .tooShort := (parseReply_eq_elim ..).trans (by rw [hfault]; rfl)
  rw [hparse]
  rfl

/-- Settles O58: every poll is in vain, five times over. -/
theorem silentDeviceExhausts : Obligations.SilentDeviceExhausts := by
  unfold Obligations.SilentDeviceExhausts
  intro s o d hinv hi hconf hin hwf hfields hscript
  have hattempt : ∀ q a c rest, Leads s.params o (readFrame o.reg q)
      ⟨.sending, a, c, 0, [], ([answerCount 11] ++ List.replicate s.params.nPoll (answerCount 0)) ++ rest⟩
      ⟨.noisyRetry, a, c, s.params.nPoll, [], rest⟩ := fun q a c rest =>
    (leads_sent.trans (leads_polled_out (m := s.params.nPollSlack) (Nat.zero_add _))).trans (leads_noise (.inl rfl))
  obtain ⟨n, t, q, hrun, hends⟩ := exists_run_readEnds hinv hi hconf hin hwf hfields hscript rfl fun q =>
    leads_all_attempts (m := 4) (rest := [d]) rfl (hattempt q)
  exact ⟨n, t, hrun, hends.idle, hends.fails .tooShort (parse_read_nil _ _), hends.att, hends.ccnt, hends.closed,
    hends.cancelled, q, hends.sent⟩

/-- Settles O59: the noise is drained and rejected, five times over. -/
theorem noiseOnEveryAttemptExhausts : Obligations.NoiseOnEveryAttemptExhausts := by
  unfold Obligations.NoiseOnEveryAttemptExhausts
  intro s o buf r hinv hi hconf hin hwf hfields hne hroom hnoise hscript hr
  have hattempt : ∀ q a c rest, Leads s.params o (readFrame o.reg q)
      ⟨.sending, a, c, 0, [], ([answerCount 11, answerCount 1] ++ replyDraws buf ++ [answerCount 0]) ++ rest⟩
      ⟨.noisyRetry, a, c, 0, buf, rest⟩ := fun q a c rest => by
    have hdraws : ([answerCount 11, answerCount 1] ++ replyDraws buf ++ [answerCount 0]) ++ rest =
        answerCount 11 :: answerCount 1 :: (replyDraws buf ++ (answerCount 0 :: rest)) := by simp
    rw [hdraws]
    exact (((leads_sent.trans (leads_available Nat.one_pos)).trans
      (leads_drained (buf := []) (by rw [List.length_nil, Nat.zero_add]; exact hroom.le))).trans
        (leads_drain_end hroom)).trans (leads_noise (.inr hnoise))
  have hscript' : s.chScript = answerCount 0 :: ((List.replicate 5
      (([answerCount 11, answerCount 1] ++ replyDraws buf ++ [answerCount 0]) ++ recoveryDraws)).flatten ++
        [answerCount 0]) := by
    rw [hscript, List.append_assoc _ [answerCount 0] recoveryDraws]
    rfl
  obtain ⟨n, t, q, hrun, hends⟩ := exists_run_readEnds hinv hi hconf hin hwf hfields hscript' rfl fun q =>
    leads_all_attempts (m := 4) (rest := [answerCount 0]) rfl (hattempt q)
  subst hr
  exact ⟨n, t, hrun, hends.idle, hends.att, hends.ccnt, hends.closed, hends.cancelled, ⟨q, hends.sent⟩, hends.csw,
    hends.fails, fun v hv => hends.delivers v hv ⟨_, _, rfl, rfl⟩⟩

end Sys2Proof.Machine
end
